-- ==== Sys2Proof/Config.lean ====
section
/-!
DEFINITION. The numbers the manual fixes for the DC-8, each with the rule that gives it. Times are whole
nanoseconds, the unit of the model's clock (log entry 2), so that every time the manual names is whole
(a byte-time of 1.375 µs at 8 Mbit/s is 1,375).
The manual leaves no value of an operation undefined; the one free value here is an order that it leaves open (R37).
-/

namespace Sys2Proof.Config

/-- Nanoseconds in a microsecond. -/
abbrev usNs : Nat := 1000

/-- Nanoseconds in a millisecond. -/
abbrev msNs : Nat := 1000000

/-- Nanoseconds in a second. -/
abbrev sNs : Nat := 1000000000

/-- The Report Queue holds at most 32 reports (R175). -/
abbrev queueSize : Nat := 32

/-- The frame buffer holds at most two frames (R168). -/
abbrev frameEntries : Nat := 2

/-- The serial pool's queue and the bound records together hold at most 64 (R126). -/
abbrev poolSize : Nat := 64

/-- The largest body the link admits, in bytes (R164). -/
abbrev maxBody : Nat := 4112

/-- The start code of a frame (R163). -/
abbrev startCode : BitVec 8 := 0xC3

/-- The mark code of a header mark (R8). -/
abbrev codeHeader : BitVec 8 := 0x5A

/-- The mark code of a data mark of kind NORMAL (R8). -/
abbrev codeNormal : BitVec 8 := 0x6B

/-- The mark code of a data mark of kind DELETED (R8). -/
abbrev codeDeleted : BitVec 8 := 0x6C

/-- Where the reception-error, stale-segment, copy-number and unlimited job-passed counts end (R21, R45, R167). -/
abbrev counterMax : Nat := 65535

/-- The largest period or pulse width that is held, in µs (R90). -/
abbrev periodMaxHeld : Nat := 1048575

/-- A slot's data area, in bytes (R18). -/
abbrev slotBytes : Nat := 12288

/-- Steps given in a recalibration before it fails (R70). -/
abbrev recalSteps : Nat := 90

/-- The spin-up timer: 4 s (R67). -/
abbrev spinUpNs : Nat := 4 * sNs

/-- The recovery timer: 4 s (R76). -/
abbrev recoveryNs : Nat := 4 * sNs

/-- The passage of time one idle step of the model stands for: one microsecond (log entry 2). -/
abbrev idleNs : Nat := usNs

/-- The k-th time that the end of the last copy of a pass both wakes a waiting segment and closes the pass, the waking
comes first: the manual lets either come first (R37), so nothing is known of this value (log entry 24). -/
opaque wakingFirst : Nat → Bool

end Sys2Proof.Config
end

