-- ==== Sys2Proof/Word.lean ====
section
/-!
DEFINITION. The words of the DC-8: a byte of the link or of the media, a 16-bit check, the number of a drive
channel, and the finite sets the manual names. A set of channels is the byte of R184 (bit c is channel c); a
sector-present set is 48 bits (bit k is sector index k, R18), since a track has at most 48 sectors (R2).
-/

namespace Sys2Proof

/-- One byte on the link, in a record, or on the media. -/
abbrev Byte := BitVec 8

/-- A 16-bit cyclic check (R9). -/
abbrev Check := BitVec 16

/-- The number of a drive channel, 0..7. -/
abbrev ChannelNo := Fin 8

/-- A set of channel numbers 0..7: bit c is one when channel c is in the set (R184). -/
abbrev ChannelSet := BitVec 8

/-- A set of sector indexes 0..47: bit k is one when index k is in the set (R18). -/
abbrev SectorSet := BitVec 48

/-- A serial record: 1 to 16 bytes, to which the DC-8 gives no meaning (section 7.1). -/
abbrev Serial := List Byte

end Sys2Proof
end

