-- ==== Sys2Proof/Syntax.lean ====
section
/-!
DEFINITION. The commands of the DC-8: one constructor per row of spec/opcode_table.json, in the table's order.

A row that takes the head frame of the frame buffer carries no operand of its own: the frame it acts on is the one
that LINK_BYTE_RECEIVED has put into the frame buffer (R168, R170). A row that looks at an input line carries
the level it finds there; a row that measures carries the time, in nanoseconds, at which its edge comes; a row
that reads the media carries the bytes the drive gives (log entries 1 to 3).
-/

namespace Sys2Proof

/-- The DC-8's commands. `ch` is the channel (drive) an event comes from. -/
inductive Instr where
  /-- TRACK_SEGMENT (R21): a TRACK-SEGMENT at the head is taken, or taken again. -/
  | trackSegment
  /-- LAYOUT_WRITE (R152): a TABLE-LOAD of table LAYOUT, mode WRITE, at the head is taken. -/
  | layoutWrite
  /-- PATCH_WRITE (R153). -/
  | patchWrite
  /-- PATCH_CLEAR (R154). -/
  | patchClear
  /-- POOL_APPEND (R155). -/
  | poolAppend
  /-- POOL_CLEAR (R128). -/
  | poolClear
  /-- PRECOMP_WRITE (R156). -/
  | precompWrite
  /-- CHANNEL_WRITE (R158). -/
  | channelWrite
  /-- TABLE_LOAD_REFUSED (R146): a TABLE-LOAD that names no table, or a mode its table does not take. -/
  | tableLoadRefused
  /-- JOB_SET (R42). -/
  | jobSet
  /-- PASS_BEGIN (R47); `trackZero` is the set of drives whose TRACK ZERO line shows track zero, which a channel
  entering RECALIBRATING looks at (R70). -/
  | passBegin (trackZero : ChannelSet)
  /-- PASS_ABORT (R54). -/
  | passAbort
  /-- CHANNEL_ENABLE (R86). -/
  | channelEnable
  /-- CHANNEL_DISABLE (R87). -/
  | channelDisable
  /-- CHANNEL_RESET (R88). -/
  | channelReset
  /-- CHANNEL_CONTROL_REFUSED (R86). -/
  | channelControlRefused
  /-- STATUS_QUERY (R177). -/
  | statusQuery
  /-- PART_RESET (R172). -/
  | partReset
  /-- POWER_ON_RESET (R174): the RESET input; the straps are at these levels (true is high). -/
  | powerOnReset (strapA strapB : Bool)
  /-- LINK_BYTE_RECEIVED (R163): eight data bits, the parity bit and the stop bit as sampled (R162). -/
  | linkByteReceived (data : Byte) (parity stop : Bool)
  /-- FRAME_GAP_TIMEOUT (R166). -/
  | frameGapTimeout
  /-- REPORT_TRANSMIT_START (R173); `returnHold` is the level of RETURN HOLD. -/
  | reportTransmitStart (returnHold : Bool)
  /-- REPORT_SENT (R175). -/
  | reportSent
  /-- HELD_REPORT_PLACED (R80); `writeProtect` is the level of the drive's WRITE PROTECT line, which a channel that
  enters SPINUP already STABLE samples (R67, R88). -/
  | heldReportPlaced (ch : ChannelNo) (writeProtect : Bool)
  /-- PASS_CLOSED_PLACED (R53). -/
  | passClosedPlaced
  /-- MEDIA_PRESENT (R66). -/
  | mediaPresent (ch : ChannelNo)
  /-- MEDIA_ABSENT (R79). -/
  | mediaAbsent (ch : ChannelNo)
  /-- INDEX_LEADING_EDGE (R92) at time `t`; `writeProtect` is the level of WRITE PROTECT, sampled when STABLE is
  reached in SPINUP (R67) and when a write start delay of 0 is over at once (R104). -/
  | indexLeadingEdge (ch : ChannelNo) (t : Nat) (writeProtect : Bool)
  /-- INDEX_TRAILING_EDGE (R93) at time `t`. -/
  | indexTrailingEdge (ch : ChannelNo) (t : Nat)
  /-- INDEX_TIMEOUT (R97). -/
  | indexTimeout (ch : ChannelNo)
  /-- WRITE_START (R104); `writeProtect` is the sample of WRITE PROTECT. -/
  | writeStart (ch : ChannelNo) (writeProtect : Bool)
  /-- LAST_CHECK_WRITTEN (R105). -/
  | lastCheckWritten (ch : ChannelNo)
  /-- WRITE_PROTECT_ASSERTED (R106). -/
  | writeProtectAsserted (ch : ChannelNo)
  /-- VERIFY_DELAY_END (R108). -/
  | verifyDelayEnd (ch : ChannelNo)
  /-- HEADER_MARK_READ (R109): after a header mark, the four header bytes and the check read. -/
  | headerMarkRead (ch : ChannelNo) (cylinder head sector size : Byte) (check : Check)
  /-- DATA_FIELD_READ (R111): after three mark-sync bytes and the mark code `code`, the bytes that follow on READ
  DATA: the data and the two check bytes. -/
  | dataFieldRead (ch : ChannelNo) (code : Byte) (bytes : List Byte)
  /-- RECAL_STEP_INTERVAL (R70); `trackZero` is the level of TRACK ZERO. -/
  | recalStepInterval (ch : ChannelNo) (trackZero : Bool)
  /-- SEEK_STEP_INTERVAL (R71). -/
  | seekStepInterval (ch : ChannelNo)
  /-- SETTLE_END (R71). -/
  | settleEnd (ch : ChannelNo)
  /-- SPIN_UP_TIMEOUT (R67). -/
  | spinUpTimeout (ch : ChannelNo)
  /-- IDLE_TIMEOUT (R68). -/
  | idleTimeout (ch : ChannelNo)
  /-- RECOVERY_TIMEOUT (R76). -/
  | recoveryTimeout (ch : ChannelNo)
  /-- SORT_DELAY_END (R83). -/
  | sortDelayEnd (ch : ChannelNo)
  /-- STROBE_END (R83). -/
  | strobeEnd (ch : ChannelNo)
  /-- EJECT_TIMEOUT (R84). -/
  | ejectTimeout (ch : ChannelNo)
  /-- STARVATION_TIMEOUT (R57). -/
  | starvationTimeout
  deriving DecidableEq, Repr

end Sys2Proof
end

