-- ==== Sys2Proof/WellFormed.lean ====
section
/-!
DEFINITION. What makes a command well formed. Channel numbers are 0..7 by their type, so the only checks are those
on what a drive can give in DATA_FIELD_READ: the mark code is one of the two data mark codes (R109), and the
bytes are not more than the largest data field with its check (R2, R110).
`exec` is total: an ill-formed DATA_FIELD_READ is no data mark (R109), or is read only as far as the field goes.
-/

namespace Sys2Proof

/-- Every field of the command is one the part's lines can carry. -/
def Instr.wellFormed : Instr → Bool
  | .dataFieldRead _ code bytes => (code == Config.codeNormal || code == Config.codeDeleted) && decide (bytes.length ≤ 1026)
  | .trackSegment | .layoutWrite | .patchWrite | .patchClear | .poolAppend | .poolClear | .precompWrite => true
  | .channelWrite | .tableLoadRefused | .jobSet | .passBegin _ | .passAbort | .channelEnable => true
  | .channelDisable | .channelReset | .channelControlRefused | .statusQuery | .partReset => true
  | .powerOnReset _ _ | .linkByteReceived _ _ _ | .frameGapTimeout | .reportTransmitStart _ | .reportSent => true
  | .heldReportPlaced _ _ | .passClosedPlaced | .mediaPresent _ | .mediaAbsent _ => true
  | .indexLeadingEdge _ _ _ | .indexTrailingEdge _ _ | .indexTimeout _ | .writeStart _ _ => true
  | .lastCheckWritten _ | .writeProtectAsserted _ | .verifyDelayEnd _ | .headerMarkRead _ _ _ _ _ _ => true
  | .recalStepInterval _ _ | .seekStepInterval _ | .settleEnd _ | .spinUpTimeout _ | .idleTimeout _ => true
  | .recoveryTimeout _ | .sortDelayEnd _ | .strobeEnd _ | .ejectTimeout _ | .starvationTimeout => true

end Sys2Proof
end

