-- ==== Sys2Proof/Decode.lean ====
section
/-!
DEFINITION. The DC-8 is a block: its commands are frames taken, edges, timers and bytes, and no row of
spec/opcode_table.json gives bits ("fields" is empty and there is no "fixed" in any row). No word spells a command.
How the frames of the image link are told apart is the Link Port's work (Machine/Link.lean), and the fields of
their bodies are read in Machine/Operands.lean.
-/

namespace Sys2Proof

/-- The command that a word spells by the table's bits: none, since the table gives no row any bits. -/
def decodeTableWord (nbits w : Nat) : Option Instr :=
  match nbits, w with
  | _, _ => none

end Sys2Proof
end

