-- ==== Sys2Proof/Machine/State.lean ====
section
/-!
DEFINITION. The state of the DC-8, block by block (00_scope, section 2), as plain data, and the state after a
power-on reset. Each field names the rule of the manual that gives it.

A timer is the time at which it expires, on the model's clock `State.now`, or stopped: its "time left" is the
difference (log entry 2). MOTOR, STABLE, HOLD, the in-flight count and the bound records are views of other
fields and are computed (Machine/Ops.lean).
-/

namespace Sys2Proof.Machine

/-- A timer: stopped (`none`), or running and due at a time in nanoseconds. -/
abbrev Timer := Option Nat

/-! ### Tables (chapters 1, 4, 7, 8) -/

/-- The density of a layout (R2). -/
inductive Density where
  | d | h
  deriving DecidableEq, Repr

/-- The mark kind of a sector list entry (R3). -/
inductive MarkKind where
  | normal | deleted
  deriving DecidableEq, Repr

/-- The verify level of a layout (R16): NONE, CHECK, COMPARE. -/
inductive VerifyLevel where
  | off | check | compare
  deriving DecidableEq, Repr

/-- One entry of a layout's sector list (R3). -/
structure SectorEntry where
  id   : Byte
  kind : MarkKind
  deriving DecidableEq, Repr

/-- The contents of an IN-USE layout entry (R2, R3). The sector count n is the length of the sector list, which R3
makes equal to the field. -/
structure Layout where
  density     : Density
  heads       : Nat
  cylinders   : Nat
  sizeCode    : Nat
  skew        : Nat
  leadIn      : Nat
  syncRun     : Nat
  gapA        : Nat
  gapB        : Nat
  gapBMin     : Nat
  tailMin     : Nat
  spliceGuard : Nat
  fill        : Byte
  verify      : VerifyLevel
  sectors     : List SectorEntry
  deriving DecidableEq, Repr

/-- A form of a number in a patch (R137, R140, R141). -/
inductive NumberForm where
  | binaryHighFirst | binaryLowFirst | decimalText
  deriving DecidableEq, Repr

/-- The source of a patch together with its form: exactly the pairs that R137 allows. -/
inductive PatchSource where
  | serial
  | constant
  | copyNumber (form : NumberForm)
  | channelNumber (form : NumberForm)
  deriving DecidableEq, Repr

/-- The function of a patch (R142). -/
inductive PatchFunction where
  | replace | and | or | xor
  deriving DecidableEq, Repr

/-- The contents of an IN-USE patch entry (R136). -/
structure Patch where
  track    : Nat
  sector   : Byte
  offset   : Nat
  length   : Nat
  source   : PatchSource
  function : PatchFunction
  mask     : Byte
  constant : List Byte
  deriving DecidableEq, Repr

/-- One entry of the precompensation table: the held values of a density (R156). -/
structure Precomp where
  boundary : Nat
  outer    : Nat
  inner    : Nat
  deriving DecidableEq, Repr

/-- The Table Store (R1, R136, R156). The channel settings stand in the channels. -/
structure Tables where
  layouts  : Vector (Option Layout) 8
  patches  : Vector (Option Patch) 32
  precompD : Precomp
  precompH : Precomp
  deriving DecidableEq, Repr

/-- The drive type of a channel (R62). -/
inductive DriveType where
  | track80 | track40
  deriving DecidableEq, Repr

/-- A channel settings record (R62). -/
structure Settings where
  enabled       : Bool
  driveType     : DriveType
  stepRate      : Nat
  settle        : Nat
  autoRearm     : Bool
  idleTimeout   : Nat
  sortDelay     : Nat
  sortWidth     : Nat
  ejectTimeout  : Nat
  autoPrecomp   : Bool
  manualPrecomp : Nat
  periodMin     : Nat
  periodMax     : Nat
  pulseMin      : Nat
  pulseMax      : Nat
  deriving DecidableEq, Repr

/-! ### The job and the pass (chapter 3) -/

/-- The image source of a job (R41). -/
inductive ImageSource where
  | stream | fill
  deriving DecidableEq, Repr

/-- The serial policy of a job (R41). -/
inductive SerialPolicy where
  | reissue | void
  deriving DecidableEq, Repr

/-- The job record (R41). -/
structure Job where
  layoutIndex       : Fin 8
  source            : ImageSource
  stepFactor        : Nat
  retryLimit        : Nat
  serialPolicy      : SerialPolicy
  quota             : Nat
  pad               : Byte
  writeDelay        : Nat
  starvationTimeout : Nat
  poolLowMark       : Nat
  deriving DecidableEq, Repr

/-- The state of the pass record (R44): NONE or OPEN. -/
inductive PassState where
  | idle | opened
  deriving DecidableEq, Repr

/-- Why a pass closed (R52). -/
inductive CloseReason where
  | completed | aborted | starved
  deriving DecidableEq, Repr

/-- A closure report (R52): what PASS-CLOSED carries. -/
structure Closure where
  tag            : Byte
  reason         : CloseReason
  passed         : Nat
  failed         : Nat
  jobPassed      : Nat
  quotaRemaining : Option Nat
  deriving DecidableEq, Repr

/-- The pass record (R44). -/
structure PassRecord where
  state       : PassState
  tag         : Byte
  live        : ChannelSet
  enrolled    : ChannelSet
  passed      : Nat
  failed      : Nat
  closeReason : Option CloseReason
  closure     : Option Closure
  deriving DecidableEq, Repr

/-- The Pass Controller (R41, R44, R45, R56). -/
structure PassControl where
  job        : Option Job
  pass       : PassRecord
  copyNumber : Nat
  jobPassed  : Nat
  starvation : Timer
  deriving DecidableEq, Repr

/-! ### The Track Store (chapter 2) -/

/-- The state of a slot (R18). -/
inductive SlotState where
  | free | filling | complete
  deriving DecidableEq, Repr

/-- One slot (R18). `data` is the 12,288-byte data area: the cells that hold another byte than 0, addresses strictly
rising (log entry 4). -/
structure Slot where
  state   : SlotState
  track   : Option Nat
  present : SectorSet
  claims  : ChannelSet
  data    : List Host.Cell
  deriving DecidableEq, Repr

/-- The Track Store (R18, R20). `wakings` is the model's own: how many times the last copy of a pass has met a waiting
segment, the argument of the free value `Config.wakingFirst` (R37; log entry 24). -/
structure TrackStore where
  slots      : Vector Slot 8
  fillCursor : Nat
  wakings    : Nat
  deriving DecidableEq, Repr

/-! ### Reports (chapters 10 and 11) -/

/-- The sixteen channel states (section 4.3). -/
inductive ChState where
  | offline | empty | spinup | ready | stopped
  | recalibrating | seeking | waitingTrack | waitingIndex | writing | verifying
  | reporting | rejecting | sorting | unload | jammed
  deriving DecidableEq, Repr

/-- Why a READY or STOPPED channel was not enrolled (R47). -/
inductive NotEnrolledReason where
  | motorStopped | quota | driveType | poolEmpty
  deriving DecidableEq, Repr

/-- The outcome of a copy (R61). -/
inductive CopyOutcome where
  | undecided | passed | failed
  deriving DecidableEq, Repr

/-- Why a copy failed (R78). -/
inductive CopyReason where
  | recalFailed | overBudget | truncatedWrite | speedFault | writeProtected | verifyFailed | noIndex
  | mediaRemoved | passAborted | passStarved | channelDisabled | channelReset
  deriving DecidableEq, Repr

/-- What became of a copy's serial record (R130). -/
inductive Disposition where
  | issued | reissued | voided
  deriving DecidableEq, Repr

/-- A strobe of the sorter (R83). The sort NONE of R78 is the absence of one. -/
inductive Strobe where
  | accept | reject
  deriving DecidableEq, Repr

/-- The outcome of one sector of a verify revolution (R111). -/
inductive SectorOutcome where
  | good | noHeader | dataCheck | markKind | mismatch
  deriving DecidableEq, Repr

/-- The verify detail (R115). -/
structure VerifyDetail where
  count   : Nat
  id      : Byte
  outcome : SectorOutcome
  deriving DecidableEq, Repr

/-- The event of a CHANNEL-EVENT (R182). -/
inductive ChannelEvent where
  | writeProtected | spinFault | jammed | spindleStopped
  deriving DecidableEq, Repr

/-- The reason of a FRAME-ERROR (R183). -/
inductive FrameErrorReason where
  | overlength | truncated | byte | check | unknownKind | overrun | length
  deriving DecidableEq, Repr

/-- The reason of a TABLE-ERROR (R149). -/
inductive TableErrorReason where
  | mode | index | value | inUse | truncatedRecord | poolFull
  deriving DecidableEq, Repr

/-- The reason of a COMMAND-REFUSED (R183). -/
inductive RefusalReason where
  | tagZero | passBusy | noJob | layoutInvalid | quotaMet | patchOutsideLayout | noPass | tagMismatch
  | channelRange | value
  deriving DecidableEq, Repr

/-- The reason of a SEGMENT-REFUSED (R31). -/
inductive SegmentReason where
  | noImage | length | trackRange | sectorRange | stale | outOfOrder | predecessorIncomplete
  deriving DecidableEq, Repr

/-- An entry of the enrolled list of PASS-OPENED (R49). -/
structure EnrolledEntry where
  channel    : ChannelNo
  copyNumber : Nat
  serial     : Option Serial
  deriving DecidableEq, Repr

/-- An entry of the not-enrolled list of PASS-OPENED (R49). -/
structure NotEnrolledEntry where
  channel : ChannelNo
  reason  : NotEnrolledReason
  deriving DecidableEq, Repr

/-- What a COPY-RESULT carries (R81, R180). -/
structure CopyResult where
  channel      : ChannelNo
  copyNumber   : Nat
  passTag      : Byte
  outcome      : CopyOutcome
  retriesUsed  : Nat
  reason       : Option CopyReason
  failingTrack : Option Nat
  leastGap     : Option Nat
  serial       : Option (Serial × Disposition)
  verifyDetail : Option VerifyDetail
  deriving DecidableEq, Repr

/-- What PART-STATUS carries of a slot (R40). -/
structure SlotStatus where
  state   : SlotState
  track   : Option Nat
  present : Nat
  claims  : ChannelSet
  deriving DecidableEq, Repr

/-- What a PART-STATUS carries (R178). -/
structure PartStatus where
  passState       : PassState
  tag             : Byte
  closureHeld     : Bool
  jobPresent      : Bool
  jobPassed       : Nat
  nextCopy        : Nat
  inFlight        : Nat
  enrolled        : ChannelSet
  quota           : Nat
  poolCount       : Nat
  boundCount      : Nat
  slots           : List SlotStatus
  fillCursor      : Nat
  receptionErrors : Nat
  staleSegments   : Nat
  deriving DecidableEq, Repr

/-- What a CHANNEL-STATUS carries (R179). -/
structure ChannelStatus where
  channel       : ChannelNo
  state         : ChState
  cylinder      : Option Nat
  cursor        : Option Nat
  activePrecomp : Nat
  settings      : Settings
  pendingHeld   : Bool
  stable        : Bool
  planning      : Option Nat
  history       : List Nat
  lastWidth     : Option Nat
  periodShort   : Bool
  periodLong    : Bool
  pulseShort    : Bool
  pulseLong     : Bool
  deriving DecidableEq, Repr

/-- The report frames (section 10.2). Their bytes are those of R187 (Machine/Formats.lean). -/
inductive Report where
  | passOpened (tag : Byte) (enrolled : List EnrolledEntry) (notEnrolled : List NotEnrolledEntry)
  | passClosed (closure : Closure)
  | copyResult (result : CopyResult)
  | channelEvent (channel : ChannelNo) (event : ChannelEvent)
  | partStatus (status : PartStatus)
  | channelStatus (status : ChannelStatus)
  | frameError (reason : FrameErrorReason) (kind : Option Byte)
  | tableError (table : Byte) (index : Nat) (reason : TableErrorReason) (accepted : Nat)
  | commandRefused (kind : Byte) (reason : RefusalReason) (detail : Nat)
  | segmentRefused (tag track : Byte) (reason : SegmentReason)
  | poolLow (count : Nat)
  | resetDone (abandoned returned : Nat)
  deriving DecidableEq, Repr

/-! ### A drive channel (chapters 4 to 6) -/

/-- A copy record (R61). `disposition` is present once the serial's binding has ended (R130). -/
structure CopyRecord where
  passTag      : Byte
  copyNumber   : Nat
  serial       : Option Serial
  disposition  : Option Disposition
  retriesUsed  : Nat
  leastGap     : Option Nat
  outcome      : CopyOutcome
  reason       : Option CopyReason
  failingTrack : Option Nat
  verifyDetail : Option VerifyDetail
  sort         : Option Strobe
  deriving DecidableEq, Repr

/-- An Index Monitor (R90). STABLE is `count = 3`. Times are nanoseconds, periods and widths whole microseconds. -/
structure Monitor where
  running       : Bool
  lastEdge      : Option Nat
  pulseStart    : Option Nat
  history       : List Nat
  lastWidth     : Option Nat
  count         : Nat
  periodShort   : Bool
  periodLong    : Bool
  pulseShort    : Bool
  pulseLong     : Bool
  indexTimer    : Timer
  deriving DecidableEq, Repr

/-- Where an attempt's data bytes come from (R102). -/
inductive Source where
  | slot (slot : Fin 8)
  | fill
  deriving DecidableEq, Repr

/-- The phase of an attempt (R102). -/
inductive Phase where
  | delay | write | read
  deriving DecidableEq, Repr

/-- One entry of the outcome list (R102, R109). -/
structure SectorResult where
  id      : Byte
  outcome : SectorOutcome
  matched : Bool
  deriving DecidableEq, Repr

/-- Where the verifier stands in its search (R108 to R110): still in the delay after the starting edge, searching
for a mark, or with a matched header (at that position of the outcome list) whose data field is awaited. -/
inductive Search where
  | discarding
  | searching
  | awaiting (position : Nat)
  deriving DecidableEq, Repr

/-- An attempt record (R102). `startEdge` is the time of the edge that began the revolution in progress, `writeBegan` the
time of the write start, and `writeEnded` the clock at the edge that ended the write revolution: the write position is
the number of byte-times between the last two, or until now while the write goes on (`Attempt.writePosition`).
`outcomes` is empty before the verify revolution (log entry 25). `search` is the verifier's place (R108 to R110). -/
structure Attempt where
  source      : Source
  track       : Nat
  gap         : Nat
  order       : List Byte
  phase       : Phase
  startEdge   : Nat
  writeBegan  : Option Nat
  writeEnded  : Option Nat
  lastCheck   : Bool
  outcomes    : List SectorResult
  search      : Search
  deriving DecidableEq, Repr

/-- The level of DIRECTION (R70, R71). -/
inductive Direction where
  | inward | outward
  deriving DecidableEq, Repr

/-- A symbol of the recording (R8): a mark-sync byte, or a data byte value. -/
inductive Symbol where
  | sync
  | byte (value : Byte)
  deriving DecidableEq, Repr

/-- A drive's lines (section 4 of 00_scope, R189). The input levels are those the channel last saw. `steps` is the
number of pulses given on STEP since the power-on reset; `writeData` is the byte stream the writer lays down on
WRITE DATA from the write start to the last gap B, after which it lays down fill bytes (R10), empty when WRITE
DATA is inactive. MOTOR follows the channel's state (R65). -/
structure Lines where
  mediaPresent : Bool
  trackZero    : Bool
  writeProtect : Bool
  index        : Bool
  steps        : Nat
  direction    : Direction
  headSelect   : Nat
  density      : Density
  writeGate    : Bool
  writeData    : List Symbol
  accept       : Bool
  reject       : Bool
  deriving DecidableEq, Repr

/-- A channel record (R60), with the channel's settings records (R62, R63), its Index Monitor (R90), its attempt
record (R102) and its drive's lines. `recalSteps`, `stepTimer` and `settleTimer` are the recalibration's steps so
far and the interval or settle in progress (R70, R71). -/
structure Channel where
  state          : ChState
  cylinder       : Option Nat
  cursor         : Option Nat
  attempts       : Nat
  copy           : Option CopyRecord
  activePrecomp  : Nat
  held           : List Report
  spinUpTimer    : Timer
  idleTimer      : Timer
  recoveryTimer  : Timer
  sortTimer      : Timer
  ejectTimer     : Timer
  removalNoted   : Bool
  resetHeld      : Bool
  strobeSort     : Option Strobe
  active         : Settings
  pendingRecord  : Option Settings
  monitor        : Monitor
  attempt        : Option Attempt
  recalSteps     : Nat
  stepTimer      : Timer
  settleTimer    : Timer
  lines          : Lines
  deriving DecidableEq, Repr

/-! ### The Link Port (chapter 9) -/

/-- The state of an occupied frame buffer entry (R168). -/
inductive FrameState where
  | receiving | ready
  deriving DecidableEq, Repr

/-- An occupied entry of the frame buffer (R168): a frame's kind and the body bytes received so far. -/
structure Frame where
  state : FrameState
  kind  : Byte
  body  : List Byte
  deriving DecidableEq, Repr

/-- Where the frame in reception goes (R169, R172): into its entry, into nothing, or into nothing and silently,
after a part reset. -/
inductive Destination where
  | entry | nothing | silent
  deriving DecidableEq, Repr

/-- The receiver IN-FRAME (R164): bytes received after the start code, the kind and length as received, the first
check byte, whether any byte carried a byte error, and the gap timing. -/
structure Reception where
  destination : Destination
  count       : Nat
  kind        : Option Byte
  length      : Nat
  checkHigh   : Byte
  byteError   : Bool
  gapTimer    : Timer
  deriving DecidableEq, Repr

/-- The transmit state (R173). -/
inductive Transmit where
  | idle | sending
  deriving DecidableEq, Repr

/-- The Link Port (R162 to R174). `reception` is `none` in HUNTING. `frames` are the entries that are not FREE, in the
order their start codes arrived. `linkOut` is the frame being sent, empty while LINK OUT rests; the levels of the line are
`LinkPort.outLevel` (R162). -/
structure LinkPort where
  strapA          : Bool
  strapB          : Bool
  reception       : Option Reception
  frames          : List Frame
  receptionErrors : Nat
  staleSegments   : Nat
  transmit        : Transmit
  returnHold      : Bool
  linkOut         : List Byte
  deriving DecidableEq, Repr

/-! ### The whole part -/

/-- The DC-8. `pending` is the model's own queue of the commands that wait, first in, first out, and `now` the
model's own clock, in nanoseconds. -/
structure State where
  pending  : List Instr
  now      : Nat
  link     : LinkPort
  tables   : Tables
  pool     : List Serial
  control  : PassControl
  store    : TrackStore
  channels : Vector Channel 8
  reports  : List Report
  deriving DecidableEq, Repr

/-- Why a command could stop the part with a fault: the manual gives no such stop, for any command in any state, and
no meaning of the model answers with one. -/
inductive Fault where
  /-- Raised by nothing: a type the interface asks for. Safe: no behaviour of the part is left out by it. -/
  | never
  deriving DecidableEq, Repr

/-- Why a command has no meaning. -/
inductive Refusal where
  /-- Raised by `exec` alone, in the arm of a command that has no meaning yet. Safe: the run stops. No arm raises it. -/
  | notModelled (mnemonic : String)
  deriving DecidableEq, Repr

/-! ### The power-on reset -/

/-- The default channel settings (R62). -/
def Settings.default : Settings where
  enabled := false
  driveType := .track80
  stepRate := 3
  settle := 15
  autoRearm := true
  idleTimeout := 60
  sortDelay := 20
  sortWidth := 50
  ejectTimeout := 10
  autoPrecomp := true
  manualPrecomp := 0
  periodMin := 194000
  periodMax := 206000
  pulseMin := 200
  pulseMax := 8000

/-- An Index Monitor after a power-on reset (R90). -/
def Monitor.initial : Monitor where
  running := false
  lastEdge := none
  pulseStart := none
  history := []
  lastWidth := none
  count := 0
  periodShort := false
  periodLong := false
  pulseShort := false
  pulseLong := false
  indexTimer := none

/-- A drive's lines after a power-on reset: outputs by R89 and R189; the inputs are the drive's, and the model takes
no media, head not at track zero, not protected, index inactive (log entry 5). -/
def Lines.initial : Lines where
  mediaPresent := false
  trackZero := false
  writeProtect := false
  index := false
  steps := 0
  direction := .outward
  headSelect := 0
  density := .d
  writeGate := false
  writeData := []
  accept := false
  reject := false

/-- A channel after a power-on reset (R60, R62, R89). -/
def Channel.initial : Channel where
  state := .offline
  cylinder := none
  cursor := none
  attempts := 0
  copy := none
  activePrecomp := 0
  held := []
  spinUpTimer := none
  idleTimer := none
  recoveryTimer := none
  sortTimer := none
  ejectTimer := none
  removalNoted := false
  resetHeld := false
  strobeSort := none
  active := Settings.default
  pendingRecord := none
  monitor := Monitor.initial
  attempt := none
  recalSteps := 0
  stepTimer := none
  settleTimer := none
  lines := Lines.initial

/-- A precompensation entry after a power-on reset (R160). -/
def Precomp.initial : Precomp := ⟨255, 0, 0⟩

/-- A FREE slot whose data area holds nothing but zeros (R18; log entry 4). -/
def Slot.initial : Slot := ⟨.free, none, 0, 0, []⟩

/-- The pass record after a reset (R44). -/
def PassRecord.initial : PassRecord := ⟨.idle, 0, 0, 0, 0, 0, none, none⟩

/-- The Pass Controller after a reset (R41, R44, R45, R56). -/
def PassControl.initial : PassControl := ⟨none, PassRecord.initial, 1, 0, none⟩

/-- The Link Port after a power-on reset with both straps low (R174; log entry 5). -/
def LinkPort.initial : LinkPort where
  strapA := false
  strapB := false
  reception := none
  frames := []
  receptionErrors := 0
  staleSegments := 0
  transmit := .idle
  returnHold := false
  linkOut := []

/-- The DC-8 right after a power-on reset: every block at its power-on value, no command waiting, the clock at 0. -/
def State.reset : State where
  pending := []
  now := 0
  link := LinkPort.initial
  tables := ⟨Vector.replicate 8 none, Vector.replicate 32 none, Precomp.initial, Precomp.initial⟩
  pool := []
  control := PassControl.initial
  store := ⟨Vector.replicate 8 Slot.initial, 0, 0⟩
  channels := Vector.replicate 8 Channel.initial
  reports := []

end Sys2Proof.Machine
end

