-- ==== Sys2Proof/Machine/Ops.lean ====
section
/-!
DEFINITION. The named operations over the state: finite sets, the cells of a slot's data area, time and timers, the
channels, the Report Queue and the frame buffer, the layout in force and the placing of tracks on the drive.
-/

namespace Sys2Proof.Machine

/-! ### Finite sets (a set of numbers below `w` is a word of `w` bits) -/

/-- Membership. -/
def setHas {w : Nat} (x : BitVec w) (i : Nat) : Bool := x.getLsbD i

/-- The set with one number more. -/
def setAdd {w : Nat} (x : BitVec w) (i : Nat) : BitVec w := x ||| BitVec.twoPow w i

/-- The set with one number less. -/
def setDrop {w : Nat} (x : BitVec w) (i : Nat) : BitVec w := x &&& ~~~(BitVec.twoPow w i)

/-- How many numbers the set holds. -/
def setCard {w : Nat} (x : BitVec w) : Nat := (List.range w).countP fun i => setHas x i

/-- The set with the numbers `k`, `k + 1`, .. `k + c - 1` added. -/
def setAddRun {w : Nat} (x : BitVec w) (k c : Nat) : BitVec w :=
  (List.range c).foldl (fun y j => setAdd y (k + j)) x

/-- The channels in ascending number (R47, R177). -/
def channelsUp : List ChannelNo := [0, 1, 2, 3, 4, 5, 6, 7]

/-- The channels in descending number (R131, R132). -/
def channelsDown : List ChannelNo := [7, 6, 5, 4, 3, 2, 1, 0]

/-! ### The data area of a slot (R18, R19, R24) -/

/-- One byte of a data area: the cell's, or 0 where no cell stands (log entry 4). -/
def memRead (m : List Host.Cell) (a : Nat) : Byte := (m.lookup a).getD 0

/-- `len` bytes from address `a` on. -/
def memReadRun (m : List Host.Cell) (a len : Nat) : List Byte := (List.range len).map fun p => memRead m (a + p)

/-- The cells of a run of bytes from address `a` on: none for a byte 0. -/
def runCells : Nat → List Byte → List Host.Cell
  | _, [] => []
  | a, b :: bs => if b = 0 then runCells (a + 1) bs else (a, b) :: runCells (a + 1) bs

/-- Writes a run of bytes from address `a` on: the cells below stay, the cells of the run replace whatever that place
held (R24), the cells above stay. -/
def memWrite (m : List Host.Cell) (a : Nat) (bs : List Byte) : List Host.Cell :=
  m.filter (fun c => c.1 < a) ++ (runCells a bs ++ m.filter (fun c => a + bs.length ≤ c.1))

/-- The canonical form of a data area: addresses strictly rising, and no cell that holds what an unlisted address
reads as. -/
def memWf (m : List Host.Cell) : Bool :=
  decide (m.Pairwise fun x y => x.1 < y.1) && m.all fun c => decide (c.2 ≠ 0)

/-! ### Time -/

/-- The clock stands at `t` at least: an event that comes at `t` has been taken (log entry 2). -/
def State.reach (s : State) (t : Nat) : State := { s with now := max s.now t }

/-- A timer has expired, so the clock stands at its expiry at least. -/
def State.reachTimer (s : State) (timer : Timer) : State := s.reach (timer.getD 0)

/-- The time a timer has left (R60): its expiry less the clock. -/
def State.timeLeft (s : State) (timer : Timer) : Option Nat := timer.map fun t => t - s.now

/-- What an idle part does in one step of the model: a microsecond passes (log entry 2). -/
def State.idle (s : State) : State := { s with now := s.now + Config.idleNs }

/-! ### Channels -/

/-- The record of a channel. -/
def State.chan (s : State) (ch : ChannelNo) : Channel := s.channels[ch]

/-- Replaces the record of a channel. -/
def State.setChan (s : State) (ch : ChannelNo) (c : Channel) : State := { s with channels := s.channels.set ch c }

/-- Changes the record of a channel. -/
def State.modChan (s : State) (ch : ChannelNo) (f : Channel → Channel) : State := s.setChan ch (f (s.chan ch))

/-- Changes the record of every channel. -/
def State.mapChans (s : State) (f : ChannelNo → Channel → Channel) : State :=
  { s with channels := Vector.ofFn fun ch => f ch s.channels[ch] }

/-- The six copy states (R63). -/
def ChState.isCopy : ChState → Bool
  | .recalibrating | .seeking | .waitingTrack | .waitingIndex | .writing | .verifying => true
  | .offline | .empty | .spinup | .ready | .stopped => false
  | .reporting | .rejecting | .sorting | .unload | .jammed => false

/-- MOTOR in each channel state (R65, section 4.3). -/
def ChState.motor : ChState → Bool
  | .spinup | .ready | .recalibrating | .seeking | .waitingTrack | .waitingIndex => true
  | .writing | .verifying | .reporting | .rejecting => true
  | .offline | .empty | .stopped | .sorting | .unload | .jammed => false

/-- STABLE: yes exactly when the in-limit count is 3 (R90). -/
def Monitor.stable (m : Monitor) : Bool := m.count == 3

/-- The serial record bound to the channel's copy: one that has met no disposition yet (R125, R130). -/
def Channel.bound (c : Channel) : Option Serial :=
  c.copy.bind fun r => if r.disposition.isNone then r.serial else none

/-- The bound count (R125). -/
def State.boundCount (s : State) : Nat := s.channels.toList.countP fun c => c.bound.isSome

/-- The in-flight count: the number of channels in the live set (R44). -/
def State.inFlight (s : State) : Nat := setCard s.control.pass.live

/-! ### The Pass Controller and the Track Store -/

/-- Changes the Pass Controller. -/
def State.modControl (s : State) (f : PassControl → PassControl) : State := { s with control := f s.control }

/-- Changes the pass record. -/
def State.modPass (s : State) (f : PassRecord → PassRecord) : State :=
  s.modControl fun p => { p with pass := f p.pass }

/-- A pass is open. -/
def State.passOpen (s : State) : Bool := s.control.pass.state == .opened

/-- A pass is open, or a closure report has not yet been queued (R42, R46, R53). -/
def State.passBusy (s : State) : Bool := s.passOpen || s.control.pass.closure.isSome

/-- The contents of a FREE slot: the data area keeps its bytes (R18, R19). -/
def Slot.freed (sl : Slot) : Slot := { sl with state := .free, track := none, present := 0, claims := 0 }

/-- Frees every slot and sets the fill cursor to 0 (R37, R38, R39). -/
def TrackStore.cleared (t : TrackStore) : TrackStore :=
  { t with slots := Vector.ofFn fun i => t.slots[i].freed, fillCursor := 0 }

/-- Replaces a slot. -/
def State.setSlot (s : State) (i : Fin 8) (sl : Slot) : State :=
  { s with store := { s.store with slots := s.store.slots.set i sl } }

/-- The lowest-numbered slot with a property. -/
def State.findSlot (s : State) (p : Slot → Bool) : Option (Fin 8) :=
  channelsUp.find? fun i => p s.store.slots[i]

/-- The COMPLETE slot that holds a track. -/
def State.completeSlot (s : State) (t : Nat) : Option (Fin 8) :=
  s.findSlot fun sl => sl.state == .complete && sl.track == some t

/-! ### The Report Queue and the frame buffer -/

/-- The number of free entries of the Report Queue (R175). -/
def State.freeEntries (s : State) : Nat := Config.queueSize - s.reports.length

/-- Places a report at the tail of the queue, if an entry is free (R175, R176). -/
def State.place (s : State) (r : Report) : State :=
  if s.reports.length < Config.queueSize then { s with reports := s.reports ++ [r] } else s

/-- Changes the Link Port. -/
def State.modLink (s : State) (f : LinkPort → LinkPort) : State := { s with link := f s.link }

/-- The entry is READY (R168). -/
def Frame.isReady (f : Frame) : Bool := f.state == .ready

/-- The head frame: the oldest READY entry (R168). -/
def State.headFrame (s : State) : Option Frame := s.link.frames.find? Frame.isReady

/-- The head frame's entry becomes FREE (R168). -/
def State.dropHead (s : State) : State :=
  s.modLink fun l => { l with frames := l.frames.eraseP Frame.isReady }

/-- HOLD: asserted while no entry is FREE (R168). -/
def State.hold (s : State) : Bool := decide (Config.frameEntries ≤ s.link.frames.length)

/-- A counter that stays at 65,535 once there (R21, R167). -/
def countUp (n : Nat) : Nat := min Config.counterMax (n + 1)

/-! ### The layout in force and the placing of tracks (R4 to R7) -/

/-- The sector count n. -/
def Layout.n (l : Layout) : Nat := l.sectors.length

/-- The sector size S (section 1.2). -/
def Layout.size (l : Layout) : Nat := 128 * 2 ^ l.sizeCode

/-- The number T of logical tracks (R2). -/
def Layout.tracks (l : Layout) : Nat := l.cylinders * l.heads

/-- The sector overhead V (R2). -/
def Layout.overhead (l : Layout) : Nat := 2 * l.syncRun + l.gapA + 16

/-- The byte rate B, in bytes per second (section 1.2). -/
def Density.rate : Density → Nat
  | .d => 31250
  | .h => 62500

/-- The time of one byte on the media, in nanoseconds (R105). -/
def Density.byteNs : Density → Nat
  | .d => 32 * Config.usNs
  | .h => 16 * Config.usNs

/-- The logical cylinder of a track (R6). -/
def Layout.cylinderOf (l : Layout) (t : Nat) : Nat := t / l.heads

/-- The head of a track (R6). -/
def Layout.headOf (l : Layout) (t : Nat) : Nat := t % l.heads

/-- The sector index of a sector id: its rank among the layout's ids (R4). -/
def Layout.indexOf (l : Layout) (id : Byte) : Nat := l.sectors.countP fun e => decide (e.id < id)

/-- The physical order of the sectors of a track: the sector list rotated left by (t × skew) mod n (R7). -/
def Layout.physical (l : Layout) (t : Nat) : List SectorEntry := l.sectors.rotateLeft (t * l.skew % l.n)

/-- A layout that stands in where no layout is in force: no state that a run reaches reads it (log entry 6). -/
def Layout.blank : Layout := ⟨.d, 1, 1, 0, 0, 0, 4, 2, 1, 1, 0, 0, 0, .off, [⟨0, .normal⟩]⟩

/-- A job that stands in where no job is present: no state that a run reaches reads it (log entry 6). -/
def Job.blank : Job := ⟨0, .stream, 1, 0, .reissue, 0, 0, 0, 1, 0⟩

/-- A copy record that stands in where a copy state holds none: no state that a run reaches reads it (log entry 6). -/
def CopyRecord.blank : CopyRecord := ⟨0, 0, none, none, 0, none, .undecided, none, none, none, none⟩

/-- The job in force. -/
def State.job (s : State) : Job := s.control.job.getD Job.blank

/-- The layout in force: the contents of the job's layout entry (R5). -/
def State.layout (s : State) : Layout :=
  (s.control.job.bind fun j => s.tables.layouts[j.layoutIndex]).getD Layout.blank

/-- The physical cylinder of a logical track under the job (R6). -/
def State.physicalCylinder (s : State) (t : Nat) : Nat := s.layout.cylinderOf t * s.job.stepFactor

/-- The pass in force is format-only (R58). -/
def State.formatOnly (s : State) : Bool := s.job.source == .fill

/-- The precompensation entry of the layout's density (R72). -/
def State.precomp (s : State) : Precomp :=
  match s.layout.density with
  | .d => s.tables.precompD
  | .h => s.tables.precompH

end Sys2Proof.Machine
end

