-- ==== Sys2Proof/Machine/Flags.lean ====
section
/-!
DEFINITION. The Index Monitor (chapter 5): starting and stopping, the measurements with the flags they latch, STABLE
and the planning period, the index timeout and the resets. Edge times are nanoseconds; periods and pulse widths
are whole microseconds, any fraction dropped, and held at most as 1,048,575 (R90).
-/

namespace Sys2Proof.Machine

/-- The index timer, started or restarted at `now` with twice period max (R91, R92, R97). -/
def indexTimerAt (now periodMax : Nat) : Timer := some (now + 2 * periodMax * Config.usNs)

/-- A time between two edges in whole microseconds, as it is held (R90). -/
def heldMicros (first second : Nat) : Nat := min Config.periodMaxHeld ((second - first) / Config.usNs)

/-- The motor turns on: every field at its motor-off value, the flags kept, the index timer started (R91). -/
def Monitor.started (m : Monitor) (now periodMax : Nat) : Monitor :=
  { m with
    running := true, lastEdge := none, pulseStart := none, history := [], lastWidth := none, count := 0
    indexTimer := indexTimerAt now periodMax }

/-- The motor turns off (R91). The flags are kept. -/
def Monitor.stopped (m : Monitor) : Monitor :=
  { m with
    running := false, lastEdge := none, pulseStart := none, history := [], lastWidth := none, count := 0
    indexTimer := none }

/-- The four flags become clear (R94). -/
def Monitor.flagsCleared (m : Monitor) : Monitor :=
  { m with periodShort := false, periodLong := false, pulseShort := false, pulseLong := false }

/-- A channel reset or a part reset of the monitor, with MOTOR on or off after it (R90, R100). -/
def Monitor.resetTo (m : Monitor) (motorOn : Bool) (now periodMax : Nat) : Monitor :=
  if motorOn then (m.started now periodMax).flagsCleared else m.stopped.flagsCleared

/-- Steps 1 to 3 of R92 for a period: the limit check latches a flag, the period joins the history, and the in-limit
count rises or becomes 0. -/
def Monitor.period (m : Monitor) (p periodMin periodMax : Nat) : Monitor :=
  { m with
    periodShort := m.periodShort || decide (p < periodMin)
    periodLong := m.periodLong || decide (periodMax < p)
    history := (p :: m.history).take 4
    count := if periodMin ≤ p ∧ p ≤ periodMax then min 3 (m.count + 1) else 0 }

/-- The period an edge at `t` ends, if a last leading edge is present (step 1 of R92). -/
def Monitor.periodAt (m : Monitor) (t : Nat) : Option Nat := m.lastEdge.map fun e => heldMicros e t

/-- A leading edge at time `t` on a running monitor, the clock standing at `now` (R92). -/
def Monitor.leadingEdge (m : Monitor) (set : Settings) (t now : Nat) : Monitor :=
  let measured := match m.periodAt t with
    | some p => m.period p set.periodMin set.periodMax
    | none => m
  { measured with
    lastEdge := some t, pulseStart := some t, indexTimer := indexTimerAt now set.periodMax }

/-- A trailing edge at time `t` on a running monitor (R93). -/
def Monitor.trailingEdge (m : Monitor) (set : Settings) (t : Nat) : Monitor :=
  match m.pulseStart with
  | none => m
  | some e =>
    { m with
      lastWidth := some (heldMicros e t)
      pulseShort := m.pulseShort || decide (heldMicros e t < set.pulseMin)
      pulseLong := m.pulseLong || decide (set.pulseMax < heldMicros e t)
      pulseStart := none }

/-- The expiry of the index timer (R97). -/
def Monitor.timedOut (m : Monitor) (now periodMax : Nat) : Monitor :=
  { m with
    periodLong := true, history := [], count := 0, lastEdge := none, pulseStart := none
    indexTimer := indexTimerAt now periodMax }

/-- The planning period: the least of the three newest periods, if the history holds three (R96). -/
def Monitor.planning (m : Monitor) : Option Nat :=
  match m.history with
  | p :: q :: r :: _ => some (min p (min q r))
  | _ => none

/-- STABLE reached between two readings of the monitor (R95). -/
def stableReached (before after : Monitor) : Bool := !before.stable && after.stable

/-- STABLE lost between two readings of the monitor (R95). -/
def stableLost (before after : Monitor) : Bool := before.stable && !after.stable

end Sys2Proof.Machine
end

