-- ==== Sys2Proof/Machine/Formats.lean ====
section
/-!
DEFINITION. Byte formats (chapter 11) and the cyclic check (R9): the bytes of every report frame, with the codes of
section 11.4.1, and the level of a byte on the link (R162).
-/

namespace Sys2Proof.Machine

/-! ### The cyclic check (R9) -/

/-- Step 3 of R9 for one entering bit. -/
def checkBit (r : Check) (bit : Bool) : Check :=
  if r.msb != bit then (r <<< 1) ^^^ 0x1021 else r <<< 1

/-- One byte enters the register, most significant bit first. -/
def checkByte (r : Check) (b : Byte) : Check :=
  [7, 6, 5, 4, 3, 2, 1, 0].foldl (fun acc i => checkBit acc (b.getLsbD i)) r

/-- The check of the covered bytes: the register starts at all ones (R9). -/
def cyclicCheck (bytes : List Byte) : Check := bytes.foldl checkByte 0xFFFF

/-- The value a mark-sync byte counts as in a check (R8). -/
abbrev syncValue : Byte := 0xB5

/-- The check over a mark with its code and what follows it (R9). -/
def markCheck (code : Byte) (bytes : List Byte) : Check :=
  cyclicCheck (syncValue :: syncValue :: syncValue :: code :: bytes)

/-! ### Numbers, sets and optional fields (R184) -/

/-- A number as one byte. -/
def byte1 (n : Nat) : List Byte := [BitVec.ofNat 8 n]

/-- A number as two bytes, high byte first. -/
def byte2 (n : Nat) : List Byte := [BitVec.ofNat 8 (n / 256), BitVec.ofNat 8 n]

/-- A number as three bytes, high byte first. -/
def byte3 (n : Nat) : List Byte := BitVec.ofNat 8 (n / 65536) :: byte2 n

/-- A yes/no field. -/
def yesNo (b : Bool) : List Byte := if b then [0x01] else [0x00]

/-- The number of a yes/no flag as one bit. -/
def flagBit (b : Bool) (weight : Nat) : Nat := if b then weight else 0

/-- A check as two bytes, high byte first. -/
def checkBytes (c : Check) : List Byte := byte2 c.toNat

/-- An optional field under its presence byte. -/
def optField {α : Type} (f : α → List Byte) : Option α → List Byte
  | none => [0x00]
  | some a => 0x01 :: f a

/-! ### Codes (section 11.4.1) -/

def ChState.code : ChState → Nat
  | .offline => 0x00 | .empty => 0x01 | .spinup => 0x02 | .ready => 0x03 | .stopped => 0x04
  | .recalibrating => 0x05 | .seeking => 0x06 | .waitingTrack => 0x07 | .waitingIndex => 0x08
  | .writing => 0x09 | .verifying => 0x0A | .reporting => 0x0B | .rejecting => 0x0C
  | .sorting => 0x0D | .unload => 0x0E | .jammed => 0x0F

def PassState.code : PassState → Nat
  | .idle => 0x00 | .opened => 0x01

def SlotState.code : SlotState → Nat
  | .free => 0x00 | .filling => 0x01 | .complete => 0x02

def NotEnrolledReason.code : NotEnrolledReason → Nat
  | .motorStopped => 0x01 | .quota => 0x02 | .driveType => 0x03 | .poolEmpty => 0x04

def CloseReason.code : CloseReason → Nat
  | .completed => 0x01 | .aborted => 0x02 | .starved => 0x03

/-- A COPY-RESULT is formed when the outcome is decided, so `undecided` is never sent. -/
def CopyOutcome.code : CopyOutcome → Nat
  | .undecided => 0x00 | .passed => 0x01 | .failed => 0x02

def CopyReason.code : CopyReason → Nat
  | .recalFailed => 0x01 | .overBudget => 0x02 | .truncatedWrite => 0x03 | .speedFault => 0x04
  | .writeProtected => 0x05 | .verifyFailed => 0x06 | .noIndex => 0x07 | .mediaRemoved => 0x08
  | .passAborted => 0x09 | .passStarved => 0x0A | .channelDisabled => 0x0B | .channelReset => 0x0C

def Disposition.code : Disposition → Nat
  | .issued => 0x01 | .reissued => 0x02 | .voided => 0x03

def SectorOutcome.code : SectorOutcome → Nat
  | .good => 0x00 | .noHeader => 0x01 | .dataCheck => 0x02 | .markKind => 0x03 | .mismatch => 0x04

def ChannelEvent.code : ChannelEvent → Nat
  | .writeProtected => 0x01 | .spinFault => 0x02 | .jammed => 0x03 | .spindleStopped => 0x04

def FrameErrorReason.code : FrameErrorReason → Nat
  | .overlength => 0x01 | .truncated => 0x02 | .byte => 0x03 | .check => 0x04
  | .unknownKind => 0x05 | .overrun => 0x06 | .length => 0x07

def TableErrorReason.code : TableErrorReason → Nat
  | .mode => 0x01 | .index => 0x02 | .value => 0x03 | .inUse => 0x04
  | .truncatedRecord => 0x05 | .poolFull => 0x06

def RefusalReason.code : RefusalReason → Nat
  | .tagZero => 0x01 | .passBusy => 0x02 | .noJob => 0x03 | .layoutInvalid => 0x04 | .quotaMet => 0x05
  | .patchOutsideLayout => 0x06 | .noPass => 0x07 | .tagMismatch => 0x08 | .channelRange => 0x09
  | .value => 0x0A

def SegmentReason.code : SegmentReason → Nat
  | .noImage => 0x01 | .length => 0x02 | .trackRange => 0x03 | .sectorRange => 0x04 | .stale => 0x05
  | .outOfOrder => 0x06 | .predecessorIncomplete => 0x07

def DriveType.code : DriveType → Nat
  | .track80 => 0x00 | .track40 => 0x01

/-! ### Report bodies (R187) -/

/-- The 22 bytes of a channel settings record (R186). -/
def Settings.encode (s : Settings) : List Byte :=
  yesNo s.enabled ++ byte1 s.driveType.code ++ byte1 s.stepRate ++ byte1 s.settle ++ yesNo s.autoRearm
    ++ byte1 s.idleTimeout ++ byte1 s.sortDelay ++ byte2 s.sortWidth ++ byte1 s.ejectTimeout
    ++ yesNo s.autoPrecomp ++ byte1 s.manualPrecomp ++ byte3 s.periodMin ++ byte3 s.periodMax
    ++ byte2 s.pulseMin ++ byte2 s.pulseMax

/-- A serial as length and value. -/
def serialBytes (r : Serial) : List Byte := byte1 r.length ++ r

def EnrolledEntry.encode (e : EnrolledEntry) : List Byte :=
  byte1 e.channel.val ++ byte2 e.copyNumber ++ optField serialBytes e.serial

def NotEnrolledEntry.encode (e : NotEnrolledEntry) : List Byte := byte1 e.channel.val ++ byte1 e.reason.code

def Closure.encode (c : Closure) : List Byte :=
  [c.tag] ++ byte1 c.reason.code ++ byte1 c.passed ++ byte1 c.failed ++ byte2 c.jobPassed
    ++ optField byte2 c.quotaRemaining

def VerifyDetail.encode (d : VerifyDetail) : List Byte := byte1 d.count ++ [d.id] ++ byte1 d.outcome.code

def CopyResult.encode (r : CopyResult) : List Byte :=
  byte1 r.channel.val ++ byte2 r.copyNumber ++ [r.passTag] ++ byte1 r.outcome.code ++ byte2 r.retriesUsed
    ++ optField (fun x => byte1 x.code) r.reason ++ optField byte1 r.failingTrack ++ optField byte1 r.leastGap
    ++ optField (fun x => serialBytes x.1 ++ byte1 x.2.code) r.serial
    ++ optField VerifyDetail.encode r.verifyDetail

def SlotStatus.encode (s : SlotStatus) : List Byte :=
  byte1 s.state.code ++ optField byte1 s.track ++ byte1 s.present ++ [s.claims]

def PartStatus.encode (p : PartStatus) : List Byte :=
  byte1 p.passState.code ++ [p.tag] ++ yesNo p.closureHeld ++ yesNo p.jobPresent ++ byte2 p.jobPassed
    ++ byte2 p.nextCopy ++ byte1 p.inFlight ++ [p.enrolled] ++ byte2 p.quota ++ byte1 p.poolCount
    ++ byte1 p.boundCount ++ p.slots.flatMap SlotStatus.encode ++ byte1 p.fillCursor
    ++ byte2 p.receptionErrors ++ byte2 p.staleSegments

def ChannelStatus.encode (c : ChannelStatus) : List Byte :=
  byte1 c.channel.val ++ byte1 c.state.code ++ optField byte1 c.cylinder ++ optField byte1 c.cursor
    ++ byte1 c.activePrecomp ++ c.settings.encode ++ yesNo c.pendingHeld ++ yesNo c.stable
    ++ optField byte3 c.planning ++ byte1 c.history.length ++ c.history.flatMap byte3
    ++ optField byte3 c.lastWidth
    ++ byte1 (flagBit c.periodShort 1 + flagBit c.periodLong 2 + flagBit c.pulseShort 4 + flagBit c.pulseLong 8)

/-- The kind byte of a report frame (section 10.2). -/
def Report.kind : Report → Byte
  | .passOpened _ _ _ => 0x80
  | .passClosed _ => 0x81
  | .copyResult _ => 0x90
  | .channelEvent _ _ => 0x91
  | .partStatus _ => 0xA0
  | .channelStatus _ => 0xA1
  | .frameError _ _ => 0xB0
  | .tableError _ _ _ _ => 0xB1
  | .commandRefused _ _ _ => 0xB2
  | .segmentRefused _ _ _ => 0xB3
  | .poolLow _ => 0xC0
  | .resetDone _ _ => 0xC1

/-- The body of a report frame (R187). -/
def Report.body : Report → List Byte
  | .passOpened tag e n =>
    [tag] ++ byte1 e.length ++ e.flatMap EnrolledEntry.encode ++ byte1 n.length
      ++ n.flatMap NotEnrolledEntry.encode
  | .passClosed c => c.encode
  | .copyResult r => r.encode
  | .channelEvent ch ev => byte1 ch.val ++ byte1 ev.code
  | .partStatus p => p.encode
  | .channelStatus c => c.encode
  | .frameError reason kind => byte1 reason.code ++ optField (fun k => [k]) kind
  | .tableError table index reason accepted => [table] ++ byte1 index ++ byte1 reason.code ++ byte1 accepted
  | .commandRefused kind reason detail => [kind] ++ byte1 reason.code ++ byte1 detail
  | .segmentRefused tag track reason => [tag, track] ++ byte1 reason.code
  | .poolLow count => byte1 count
  | .resetDone abandoned returned => byte1 abandoned ++ byte1 returned

/-- The check of a frame on the link: over kind, length and body, not the start code (R184). -/
def frameCheck (kind : Byte) (length : Nat) (body : List Byte) : Check := cyclicCheck (kind :: byte2 length ++ body)

/-- A whole frame: start code, kind, length, body and check (R184). -/
def frameBytes (kind : Byte) (body : List Byte) : List Byte :=
  Config.startCode :: kind :: byte2 body.length ++ body ++ checkBytes (frameCheck kind body.length body)

/-- The bytes of a report on LINK OUT (R173, R184). -/
def Report.frame (r : Report) : List Byte := frameBytes r.kind r.body

/-! ### A byte on the link (R162) -/

/-- The received byte carries a byte error: its parity bit makes the count of ones even, or its stop bit is low. -/
def byteError (data : Byte) (parity stop : Bool) : Bool := (setCard data + flagBit parity 1) % 2 == 0 || !stop

/-- A byte as it is sent, level by level, high as true: a start bit, the data bits with the least significant first, a
parity bit that makes the number of ones odd, and a stop bit. -/
def byteLevels (b : Byte) : List Bool :=
  false :: (List.range 8).map (fun i => b.getLsbD i) ++ [setCard b % 2 == 0, true]

/-- The level of LINK OUT in each bit-time from the beginning of the report being sent: its bytes one after another, and
the high level at which the line rests. -/
def LinkPort.outLevel (l : LinkPort) (bit : Nat) : Bool := (l.linkOut.flatMap byteLevels).getD bit true

/-- The time of one byte on the link at the strapped rate, in nanoseconds (the table of R162). -/
def LinkPort.byteNs (l : LinkPort) : Nat :=
  match l.strapA, l.strapB with
  | false, false => 11000
  | true, false => 5500
  | false, true => 2750
  | true, true => 1375

end Sys2Proof.Machine
end

