-- ==== Sys2Proof/Machine/Operands.lean ====
section
/-!
DEFINITION. The operands of the frame commands: the bodies of the inbound frames (R185) and the records of the table
loads (R186), with the ranges, refusals and clamps of the rules that own them. A reading answers `none` where the
rule refuses with VALUE.
-/

namespace Sys2Proof.Machine

/-! ### Kinds and body lengths (R165, R170, R185) -/

abbrev kindSegment : Byte := 0x10
abbrev kindTableLoad : Byte := 0x20
abbrev kindJobSet : Byte := 0x21
abbrev kindPassBegin : Byte := 0x30
abbrev kindPassAbort : Byte := 0x31
abbrev kindChannelControl : Byte := 0x40
abbrev kindStatusQuery : Byte := 0x50
abbrev kindPartReset : Byte := 0x5F

/-- The inbound kinds (R165, case 4). -/
def inboundKinds : List Byte :=
  [kindSegment, kindTableLoad, kindJobSet, kindPassBegin, kindPassAbort, kindChannelControl, kindStatusQuery,
    kindPartReset]

/-- The body length suits the kind (the table of R170 with the lengths of R185). -/
def Frame.lengthOk (f : Frame) : Bool :=
  if f.kind = kindTableLoad then decide (4 ≤ f.body.length)
  else if f.kind = kindJobSet then f.body.length == 14
  else if f.kind = kindPassBegin || f.kind = kindPassAbort then f.body.length == 1
  else if f.kind = kindChannelControl || f.kind = kindStatusQuery then f.body.length == 2
  else true

/-- A byte of a body, 0 beyond its end. -/
def byteAt (bs : List Byte) (i : Nat) : Byte := bs.getD i 0

/-- A number of one byte. -/
def num1 (bs : List Byte) (i : Nat) : Nat := (byteAt bs i).toNat

/-- A number of two bytes, high byte first (R184). -/
def num2 (bs : List Byte) (i : Nat) : Nat := num1 bs i * 256 + num1 bs (i + 1)

/-- A number of three bytes, high byte first. -/
def num3 (bs : List Byte) (i : Nat) : Nat := num1 bs i * 65536 + num2 bs (i + 1)

/-- A yes/no field: a code that names neither is no value. -/
def readYesNo (b : Byte) : Option Bool :=
  if b = 0x00 then some false else if b = 0x01 then some true else none

/-- Brings a number into a range. -/
def clamp (low high n : Nat) : Nat := max low (min high n)

/-- The free report entries a frame needs to be taken (the table of R170). -/
def Frame.entriesNeeded (f : Frame) : Nat :=
  if f.kind = kindPartReset then 0
  else if f.kind = kindStatusQuery then (if f.lengthOk then 1 + setCard (byteAt f.body 1) else 1)
  else 1

/-! ### JOB-SET (R42, R43, R185) -/

def readSource (b : Byte) : Option ImageSource :=
  if b = 0x00 then some .stream else if b = 0x01 then some .fill else none

def readPolicy (b : Byte) : Option SerialPolicy :=
  if b = 0x00 then some .reissue else if b = 0x01 then some .void else none

/-- Why a JOB-SET is not taken, or the job it sets: checks 2 and 3 of R42, then the clamps of R43. -/
def readJob (tables : Tables) (body : List Byte) : Except RefusalReason Job :=
  match readSource (byteAt body 1), readPolicy (byteAt body 4) with
  | some source, some policy =>
    if h : num1 body 0 < 8 then
      match tables.layouts[num1 body 0] with
      | none => .error .layoutInvalid
      | some l =>
        if (num1 body 2 ≠ 1 ∧ num1 body 2 ≠ 2) ∨ (num1 body 2 = 2 ∧ 42 < l.cylinders) then .error .layoutInvalid
        else .ok
          { layoutIndex := ⟨num1 body 0, h⟩
            source := source
            stepFactor := num1 body 2
            retryLimit := min 7 (num1 body 3)
            serialPolicy := policy
            quota := num2 body 5
            pad := byteAt body 7
            writeDelay := min 2000 (num2 body 8)
            starvationTimeout := max 1 (num1 body 10)
            poolLowMark := min 63 (num1 body 11) }
    else .error .layoutInvalid
  | _, _ => .error .value

/-! ### Layout records (R2, R3, R152, R186) -/

def readDensity (b : Byte) : Option Density :=
  if b = 0x00 then some .d else if b = 0x01 then some .h else none

def readVerify (b : Byte) : Option VerifyLevel :=
  if b = 0x00 then some .off else if b = 0x01 then some .check else if b = 0x02 then some .compare else none

def readMarkKind (b : Byte) : Option MarkKind :=
  if b = 0x00 then some .normal else if b = 0x01 then some .deleted else none

/-- The sector list: pairs of id and mark kind, in the record's order. -/
def readSectors : List Byte → Option (List SectorEntry)
  | [] => some []
  | [_] => none
  | id :: kind :: rest =>
    match readMarkKind kind, readSectors rest with
    | some k, some es => some (⟨id, k⟩ :: es)
    | _, _ => none

/-- The ranges of R2 and the conditions of R3. -/
def Layout.valid (l : Layout) : Bool :=
  decide (1 ≤ l.heads ∧ l.heads ≤ 2) && decide (1 ≤ l.cylinders ∧ l.cylinders ≤ 84) && decide (l.sizeCode ≤ 3)
    && decide (1 ≤ l.n ∧ l.n ≤ 48) && decide (l.skew < l.n) && decide (l.leadIn ≤ 1000)
    && decide (4 ≤ l.syncRun ∧ l.syncRun ≤ 32) && decide (2 ≤ l.gapA ∧ l.gapA ≤ 64)
    && decide (1 ≤ l.gapB ∧ l.gapB ≤ 255) && decide (1 ≤ l.gapBMin ∧ l.gapBMin ≤ l.gapB)
    && decide (l.tailMin ≤ 1000) && decide (l.spliceGuard ≤ 255)
    && decide ((l.sectors.map (·.id)).Nodup) && decide (l.n * l.size ≤ Config.slotBytes)

/-- A whole layout record whose flag is clear: the layout, if it is valid. -/
def readLayout (rec : List Byte) : Option Layout :=
  match readDensity (byteAt rec 1), readVerify (byteAt rec 16), readSectors (rec.drop 17) with
  | some density, some verify, some sectors =>
    let l : Layout :=
      { density := density
        heads := num1 rec 2 / 16
        sizeCode := num1 rec 2 % 16
        cylinders := num1 rec 3
        skew := num1 rec 5
        leadIn := num2 rec 6
        syncRun := num1 rec 8
        gapA := num1 rec 9
        gapB := num1 rec 10
        gapBMin := num1 rec 11
        tailMin := num2 rec 12
        spliceGuard := num1 rec 14
        fill := byteAt rec 15
        verify := verify
        sectors := sectors }
    if l.valid then some l else none
  | _, _, _ => none

/-- What a whole layout record makes of its entry: UNUSED, IN-USE with a layout, or VALUE (R152). -/
def readLayoutRecord (rec : List Byte) : Option (Option Layout) :=
  if byteAt rec 0 = 0x01 then some none
  else if byteAt rec 0 = 0x00 then (readLayout rec).map some
  else none

/-! ### Patch records (R136, R137, R153, R186) -/

/-- The form of a number; RAW does not go with a number (R137). -/
def readNumberForm (b : Byte) : Option NumberForm :=
  if b = 0x01 then some .binaryHighFirst
  else if b = 0x02 then some .binaryLowFirst
  else if b = 0x03 then some .decimalText
  else none

/-- Source and form, if they are a pair that R137 allows. -/
def readPatchSource (source form : Byte) : Option PatchSource :=
  if source = 0x00 then (if form = 0x00 then some .serial else none)
  else if source = 0x01 then (readNumberForm form).map .copyNumber
  else if source = 0x02 then (readNumberForm form).map .channelNumber
  else if source = 0x03 then (if form = 0x00 then some .constant else none)
  else none

def readPatchFunction (b : Byte) : Option PatchFunction :=
  if b = 0x00 then some .replace
  else if b = 0x01 then some .and
  else if b = 0x02 then some .or
  else if b = 0x03 then some .xor
  else none

/-- The ranges of R136. -/
def Patch.inRange (p : Patch) : Bool :=
  decide (p.track ≤ 167) && decide (p.offset ≤ 1023) && decide (1 ≤ p.length ∧ p.length ≤ 16)

/-- A whole patch record that says IN-USE. -/
def readPatch (rec : List Byte) : Option Patch :=
  match readPatchSource (byteAt rec 6) (byteAt rec 7), readPatchFunction (byteAt rec 8) with
  | some source, some function =>
    let p : Patch :=
      { track := num1 rec 1
        sector := byteAt rec 2
        offset := num2 rec 3
        length := num1 rec 5
        source := source
        function := function
        mask := byteAt rec 9
        constant := (rec.drop 10).take 16 }
    if p.inRange then some p else none
  | _, _ => none

/-- What a whole patch record makes of its entry: UNUSED, IN-USE with a patch, or VALUE (R153). -/
def readPatchRecord (rec : List Byte) : Option (Option Patch) :=
  if byteAt rec 0 = 0x00 then some none
  else if byteAt rec 0 = 0x01 then (readPatch rec).map some
  else none

/-! ### Precompensation and channel settings records (R156 to R158, R186) -/

/-- A whole precompensation record (R156). -/
def readPrecomp (rec : List Byte) : Option Precomp :=
  if num1 rec 1 ≤ 15 ∧ num1 rec 2 ≤ 15 then some ⟨num1 rec 0, num1 rec 1, num1 rec 2⟩ else none

def readDriveType (b : Byte) : Option DriveType :=
  if b = 0x00 then some .track80 else if b = 0x01 then some .track40 else none

/-- The limits and the manual value that R157 refuses when wrong. -/
def Settings.valid (s : Settings) : Bool :=
  decide (s.manualPrecomp ≤ 15) && decide (s.periodMin ≤ Config.periodMaxHeld)
    && decide (s.periodMax ≤ Config.periodMaxHeld) && decide (s.periodMin < s.periodMax)
    && decide (s.pulseMin < s.pulseMax)

/-- The clamps of R158. -/
def Settings.clamped (s : Settings) : Settings :=
  { s with
    stepRate := clamp 2 16 s.stepRate
    settle := min 50 s.settle
    idleTimeout := if s.idleTimeout = 0 then 0 else clamp 10 240 s.idleTimeout
    sortWidth := clamp 10 500 s.sortWidth
    ejectTimeout := clamp 2 60 s.ejectTimeout }

/-- A whole channel settings record: the record as it is placed, or VALUE (R157, R158). -/
def readSettings (rec : List Byte) : Option Settings :=
  match readYesNo (byteAt rec 0), readDriveType (byteAt rec 1), readYesNo (byteAt rec 4), readYesNo (byteAt rec 10) with
  | some enabled, some driveType, some autoRearm, some autoPrecomp =>
    let s : Settings :=
      { enabled := enabled
        driveType := driveType
        stepRate := num1 rec 2
        settle := num1 rec 3
        autoRearm := autoRearm
        idleTimeout := num1 rec 5
        sortDelay := num1 rec 6
        sortWidth := num2 rec 7
        ejectTimeout := num1 rec 9
        autoPrecomp := autoPrecomp
        manualPrecomp := num1 rec 11
        periodMin := num3 rec 12
        periodMax := num3 rec 15
        pulseMin := num2 rec 18
        pulseMax := num2 rec 20 }
    if s.valid then some s.clamped else none
  | _, _, _, _ => none

end Sys2Proof.Machine
end

