-- ==== Sys2Proof/Machine/ChannelOps.lean ====
section
/-!
DEFINITION. What one drive channel does by itself (chapter 4): entering a state with its motor and Index Monitor,
SPINUP and READY, sorting, unload and re-arm, settings, seeking, and the resets. `now` is the clock.
-/

namespace Sys2Proof.Machine

/-- Changes a channel's lines. -/
def Channel.modLines (c : Channel) (f : Lines → Lines) : Channel := { c with lines := f c.lines }

/-- Changes a channel's copy record, if it holds one. -/
def Channel.modCopy (c : Channel) (f : CopyRecord → CopyRecord) : Channel := { c with copy := c.copy.map f }

/-- Enters a state: where MOTOR's level differs from that of the state left, MOTOR is turned and the Index Monitor
starts or stops with it (R65, R91). -/
def Channel.enter (c : Channel) (st : ChState) (now : Nat) : Channel :=
  { c with
    state := st
    monitor :=
      if c.state.motor = st.motor then c.monitor
      else if st.motor then c.monitor.started now c.active.periodMax
      else c.monitor.stopped }

/-- Adds a report to the held list (R80). -/
def Channel.hold (c : Channel) (r : Report) : Channel := { c with held := c.held ++ [r] }

/-- Adds JAMMED or SPINDLE-STOPPED to the held list, unless it is there already (R80, R182). -/
def Channel.holdOnce (c : Channel) (r : Report) : Channel := if r ∈ c.held then c else c.hold r

/-! ### Without a copy (R66 to R69) -/

/-- Enters REJECTING with its tail report (R82). -/
def Channel.enterRejecting (c : Channel) (ch : ChannelNo) (ev : ChannelEvent) (now : Nat) : Channel :=
  { (c.enter .rejecting now).hold (.channelEvent ch ev) with spinUpTimer := none }

/-- Enters READY: the idle timer starts, unless the idle timeout is 0 (R68). -/
def Channel.enterReady (c : Channel) (now : Nat) : Channel :=
  { c.enter .ready now with
    spinUpTimer := none
    idleTimer := if c.active.idleTimeout = 0 then none else some (now + c.active.idleTimeout * Config.sNs) }

/-- STABLE reached in SPINUP: WRITE PROTECT is sampled (R67). -/
def Channel.stableInSpinup (c : Channel) (ch : ChannelNo) (now : Nat) : Channel :=
  if c.lines.writeProtect then c.enterRejecting ch .writeProtected now else c.enterReady now

/-- Enters SPINUP: the spin-up timer starts at 4 s, and a channel already STABLE acts as on STABLE reached (R67). -/
def Channel.enterSpinup (c : Channel) (ch : ChannelNo) (now : Nat) : Channel :=
  let c' := { c.enter .spinup now with idleTimer := none, spinUpTimer := some (now + Config.spinUpNs) }
  if c'.monitor.stable then c'.stableInSpinup ch now else c'

/-- Leaves SPINUP, READY, STOPPED or EMPTY for a state with the motor off: the timers stop (R67 to R69). -/
def Channel.leaveFor (c : Channel) (st : ChState) (now : Nat) : Channel :=
  { c.enter st now with spinUpTimer := none, idleTimer := none }

/-- Enters EMPTY, and goes on at once to SPINUP if media is present (R66, R85). -/
def Channel.enterEmptyOrSpinup (c : Channel) (ch : ChannelNo) (now : Nat) : Channel :=
  let c' := c.leaveFor .empty now
  if c.lines.mediaPresent then c'.enterSpinup ch now else c'

/-! ### Settings (R63, R64, R86, R87) -/

/-- Writes the enabled field of the active record and of the pending record, if one is held (R64). -/
def Channel.setEnabled (c : Channel) (yes : Bool) : Channel :=
  { c with
    active := { c.active with enabled := yes }
    pendingRecord := c.pendingRecord.map fun r => { r with enabled := yes } }

/-- The pending record, if one is held, becomes the active record (R63). -/
def Channel.applyPending (c : Channel) : Channel :=
  { c with active := c.pendingRecord.getD c.active, pendingRecord := none }

/-- ENABLE in the channel's state: OFFLINE goes to EMPTY, or SPINUP; every other state stays (R86). -/
def Channel.actEnable (c : Channel) (ch : ChannelNo) (now : Nat) : Channel :=
  if c.state = .offline then c.enterEmptyOrSpinup ch now else c

/-- DISABLE in a state without a copy in progress (the table of R87). -/
def Channel.actDisable (c : Channel) (now : Nat) : Channel :=
  match c.state with
  | .empty | .spinup | .ready | .stopped => c.leaveFor .offline now
  | .offline | .reporting | .rejecting | .sorting | .unload | .jammed => c
  | .recalibrating | .seeking | .waitingTrack | .waitingIndex | .writing | .verifying => c

/-- A settings record is placed: pending in a copy state; else active at once, and a change of enabled acts as an
ENABLE or a DISABLE (R63, R158). -/
def Channel.placeSettings (c : Channel) (ch : ChannelNo) (r : Settings) (now : Nat) : Channel :=
  if c.state.isCopy then { c with pendingRecord := some r }
  else
    let c' := { c with active := r, pendingRecord := none }
    if c.active.enabled = r.enabled then c'
    else if r.enabled then c'.actEnable ch now
    else c'.actDisable now

/-! ### Sorting and unload (R81 to R85) -/

/-- Re-arm (R85): the motor goes off; the channel goes back to work if enabled and auto-rearm are yes, and else to
OFFLINE with enabled no. -/
def Channel.rearm (c : Channel) (ch : ChannelNo) (now : Nat) : Channel :=
  let c' :=
    { c with
      sortTimer := none, ejectTimer := none, removalNoted := false, strobeSort := none
      lines := { c.lines with accept := false, reject := false } }
  if c.active.enabled && c.active.autoRearm then c'.enterEmptyOrSpinup ch now
  else (c'.leaveFor .offline now).setEnabled false

/-- The strobe starts: ACCEPT or REJECT is driven for the sort width (R83). -/
def Channel.startStrobe (c : Channel) (now : Nat) : Channel :=
  { c with
    sortTimer := some (now + c.active.sortWidth * Config.msNs)
    lines := { c.lines with accept := c.strobeSort == some .accept, reject := c.strobeSort == some .reject } }

/-- A strobe is being given (R83). -/
def Channel.strobing (c : Channel) : Bool := c.lines.accept || c.lines.reject

/-- Enters SORTING with a strobe sort: the motor goes off and the sort delay starts; a delay of 0 starts the strobe on
entry (R83). -/
def Channel.enterSorting (c : Channel) (sort : Strobe) (now : Nat) : Channel :=
  let c' :=
    { c.enter .sorting now with
      strobeSort := some sort, removalNoted := false
      sortTimer := some (now + c.active.sortDelay * Config.msNs) }
  if c.active.sortDelay = 0 then c'.startStrobe now else c'

/-- The strobe has ended: UNLOAD with its eject timer, or re-arm if a removal was noted (R83, R84). -/
def Channel.endStrobe (c : Channel) (ch : ChannelNo) (now : Nat) : Channel :=
  if c.removalNoted then c.rearm ch now
  else
    { c.enter .unload now with
      sortTimer := none, strobeSort := none
      ejectTimer := some (now + c.active.ejectTimeout * Config.sNs)
      lines := { c.lines with accept := false, reject := false } }

/-! ### Resets (R88, R89, R100) -/

/-- The state that the media line and the enabled field give (the table of R88); reset held becomes no. -/
def Channel.goOn (c : Channel) (ch : ChannelNo) (now : Nat) : Channel :=
  let c' := { c with resetHeld := false }
  if c.active.enabled then
    if c.lines.mediaPresent then c'.enterSpinup ch now else c'.leaveFor .empty now
  else c'.leaveFor .offline now

/-- What a channel reset and a part reset both do: the pending record becomes active, every timer stops, a strobe ends,
the cylinder becomes absent and the attempt count 0, and the Index Monitor is cleared (R88, R89, R100). -/
def Channel.cleared (c : Channel) (now : Nat) : Channel :=
  let c' := c.applyPending
  { c' with
    spinUpTimer := none, idleTimer := none, recoveryTimer := none, sortTimer := none, ejectTimer := none
    stepTimer := none, settleTimer := none, recalSteps := 0
    removalNoted := false, strobeSort := none, cylinder := none, attempts := 0
    monitor := c.monitor.resetTo c.state.motor now c'.active.periodMax
    lines := { c.lines with accept := false, reject := false } }

/-- Steps 2 to 5 of R88 and what follows them, once no copy is in progress: in REPORTING or REJECTING the channel waits
with reset held yes, and in any other state it goes on at once. -/
def Channel.resetAfterCopy (c : Channel) (ch : ChannelNo) (now : Nat) : Channel :=
  if c.state = .reporting ∨ c.state = .rejecting then { c.cleared now with resetHeld := true }
  else (c.cleared now).goOn ch now

/-- WRITE GATE drops, WRITE DATA goes inactive and no attempt record exists (R102, R118, R123). -/
def Channel.dropAttempt (c : Channel) : Channel :=
  { c with attempt := none, lines := { c.lines with writeGate := false, writeData := [] } }

/-- A part reset of the channel (R89). -/
def Channel.partReset (c : Channel) (ch : ChannelNo) (now : Nat) : Channel :=
  ({ c.dropAttempt.cleared now with copy := none, held := [], cursor := none } : Channel).goOn ch now

/-- A power-on reset of the channel: every field at its power-on value, the drive's own lines as they are (R89). -/
def Channel.powerOn (c : Channel) : Channel :=
  { Channel.initial with
    lines :=
      { Lines.initial with
        mediaPresent := c.lines.mediaPresent, trackZero := c.lines.trackZero
        writeProtect := c.lines.writeProtect, index := c.lines.index } }

/-! ### Placed reports (R81, R82) -/

/-- The COPY-RESULT of a copy with this sort has been placed in REPORTING (R81). -/
def Channel.afterResult (c : Channel) (ch : ChannelNo) (sort : Option Strobe) (now : Nat) : Channel :=
  if c.resetHeld then c.goOn ch now
  else
    match sort with
    | none => c.rearm ch now
    | some st => if c.lines.mediaPresent then c.enterSorting st now else c.rearm ch now

/-- The event of REJECTING has been placed (R82). -/
def Channel.afterEvent (c : Channel) (ch : ChannelNo) (now : Nat) : Channel :=
  if c.resetHeld then c.goOn ch now
  else if c.lines.mediaPresent then c.enterSorting .reject now
  else c.rearm ch now

/-! ### Recalibration and seeking (R70, R71) -/

/-- One step pulse; the interval to the next event starts at the step rate in force (R64, R70, R71). -/
def Channel.pulse (c : Channel) (now : Nat) : Channel :=
  { c with
    stepTimer := some (now + c.active.stepRate * Config.msNs)
    lines := { c.lines with steps := c.lines.steps + 1 } }

/-- HEAD SELECT is driven for the track's head and the settle starts (R71). -/
def Channel.startSettle (c : Channel) (head now : Nat) : Channel :=
  { c with
    stepTimer := none
    settleTimer := some (now + c.active.settle * Config.msNs)
    lines := { c.lines with headSelect := head } }

/-- The next step towards the target, which changes the cylinder by one when its pulse is given; or, with no step left
to give, the settle (R71). -/
def Channel.seekOn (c : Channel) (target head now : Nat) : Channel :=
  match c.cylinder with
  | none => c.startSettle head now
  | some at_ =>
    if at_ < target then { c.pulse now with cylinder := some (at_ + 1) }
    else if target < at_ then { c.pulse now with cylinder := some (at_ - 1) }
    else c.startSettle head now

/-- DIRECTION towards the target; with no step to give it keeps its level (R71; log entry 12). -/
def Channel.aim (c : Channel) (target : Nat) : Channel :=
  c.modLines fun l =>
    { l with
      direction :=
        if (c.cylinder.getD target) < target then .inward
        else if target < c.cylinder.getD target then .outward
        else l.direction }

/-- Enters SEEKING for a track on the physical cylinder `target` and head `head` (R71). -/
def Channel.enterSeeking (c : Channel) (target head now : Nat) : Channel :=
  (({ c with recalSteps := 0, stepTimer := none } : Channel).enter .seeking now |>.aim target).seekOn target head now

/-- Enters RECALIBRATING for a copy of a layout of this density (R70, R17): DENSITY and DIRECTION are driven, the
cylinder is absent, and the first step is given unless TRACK ZERO shows track zero, when the channel goes on to seek
track 0 at once. `head` is the head of track 0. -/
def Channel.enterRecalibrating (c : Channel) (density : Density) (head now : Nat) : Channel :=
  let c' :=
    { c.enter .recalibrating now with
      idleTimer := none, cylinder := none, recalSteps := 0
      lines := { c.lines with density := density, direction := .outward } }
  if c.lines.trackZero then ({ c' with cylinder := some 0 } : Channel).enterSeeking 0 head now
  else { c'.pulse now with recalSteps := 1 }

/-- The precompensation value that a seek completion makes active (R72). -/
def Channel.precompValue (c : Channel) (p : Precomp) : Nat :=
  if c.active.autoPrecomp then (if p.boundary ≤ c.cylinder.getD 0 then p.inner else p.outer)
  else c.active.manualPrecomp

/-! ### STABLE during a copy (R76, R95) -/

/-- The recovery timer at a leading edge: stopped when STABLE is regained, started when it is lost unless it is already
running (R76). -/
def Channel.recover (c : Channel) (before after : Monitor) (now : Nat) : Channel :=
  if stableReached before after then { c with recoveryTimer := none }
  else if stableLost before after && c.recoveryTimer.isNone then
    { c with recoveryTimer := some (now + Config.recoveryNs) }
  else c

/-- STABLE lost in READY: back to SPINUP with the motor on (R68). -/
def Channel.readyLost (c : Channel) (ch : ChannelNo) (now : Nat) : Channel := c.enterSpinup ch now

end Sys2Proof.Machine
end

