-- ==== Sys2Proof/Machine/Track.lean ====
section
/-!
DEFINITION. What lies on a track: the revolution budget (R11 to R14), the patch unit (R138 to R144), the bytes the
writer lays down (R8, R10, R105) and the bytes the verifier expects (R112).
-/

namespace Sys2Proof.Machine

/-! ### The revolution budget (R12) -/

/-- Stage 1: the available bytes A, in a planning period of `p` µs with a write start delay of `d` µs. -/
def Layout.available (l : Layout) (p d : Nat) : Nat := (p - d) * l.density.rate / 1000000 - l.spliceGuard

/-- Stage 2: the fixed bytes F. -/
def Layout.fixed (l : Layout) : Nat := l.leadIn + l.n * (l.overhead + l.size)

/-- Stages 3 and 4: the gap B in use if the budget fits, none if it is over. -/
def Layout.budget (l : Layout) (p d : Nat) : Option Nat :=
  let a := l.available p d
  if a < l.fixed + l.tailMin then none
  else
    let g := min l.gapB ((a - l.fixed - l.tailMin) / l.n)
    if g < l.gapBMin then none else some g

/-- Stage 5: the tail planned R. -/
def Layout.tailPlanned (l : Layout) (p d g : Nat) : Nat := l.available p d - l.fixed - l.n * g

/-- The bytes that must be laid down before the ending edge, or the revolution is truncated: F + (n − 1) × g (R14). -/
def Layout.bytesToLastCheck (l : Layout) (g : Nat) : Nat := l.fixed + (l.n - 1) * g

/-- The copy's least gap B after an attempt with gap `g` has begun (R15). -/
def leastGapWith (old : Option Nat) (g : Nat) : Option Nat :=
  match old with
  | none => some g
  | some o => some (min o g)

/-! ### The patch unit (chapter 7) -/

/-- The low-order `len` digits of a number in a base, most significant first. -/
def digits (base number : Nat) : Nat → List Nat
  | 0 => []
  | len + 1 => digits base (number / base) len ++ [number % base]

/-- A number in a form, as `len` bytes (R140, R141). -/
def numberBytes (form : NumberForm) (number len : Nat) : List Byte :=
  match form with
  | .binaryHighFirst => (digits 256 number len).map (BitVec.ofNat 8)
  | .binaryLowFirst => ((digits 256 number len).map (BitVec.ofNat 8)).reverse
  | .decimalText => (digits 10 number len).map fun x => BitVec.ofNat 8 (0x30 + x)

/-- The source bytes of an entry's field for one copy on one channel (R139, R140). -/
def Patch.sourceBytes (p : Patch) (serial : Serial) (pad : Byte) (copyNumber : Nat) (ch : ChannelNo) : List Byte :=
  match p.source with
  | .serial => (serial ++ List.replicate p.length pad).take p.length
  | .constant => p.constant.take p.length
  | .copyNumber form => numberBytes form copyNumber p.length
  | .channelNumber form => numberBytes form ch.val p.length

/-- The function and mask of an entry on one byte (R142). -/
def Patch.combine (p : Patch) (d s : Byte) : Byte :=
  let f := match p.function with
    | .replace => s
    | .and => d &&& s
    | .or => d ||| s
    | .xor => d ^^^ s
  (f &&& p.mask) ||| (d &&& ~~~p.mask)

/-- The entry's field covers position `pos` of the sector's data on that track (R138). -/
def Patch.covers (p : Patch) (track : Nat) (id : Byte) (pos : Nat) : Bool :=
  p.track == track && p.sector == id && decide (p.offset ≤ pos) && decide (pos < p.offset + p.length)

/-- What a copy's patches read of it: its serial record, the job's pad byte, its copy number and its channel (R139,
R140, R144). -/
structure PatchContext where
  serial     : Serial
  pad        : Byte
  copyNumber : Nat
  channel    : ChannelNo
  deriving DecidableEq, Repr

/-- One entry of the table acts on a byte, if it is IN-USE and covers it (R138, R142). -/
def patchEntry (x : PatchContext) (track : Nat) (id : Byte) (pos : Nat) (d : Byte) (entry : Option Patch) : Byte :=
  match entry with
  | none => d
  | some p =>
    if p.covers track id pos then
      p.combine d ((p.sourceBytes x.serial x.pad x.copyNumber x.channel).getD (pos - p.offset) 0)
    else d

/-- The byte that goes to the drive: the entries act in ascending number on the byte as the image gives it (R143). -/
def patchByte (patches : Vector (Option Patch) 32) (x : PatchContext) (track : Nat) (id : Byte) (pos : Nat)
    (image : Byte) : Byte :=
  patches.toList.foldl (fun d entry => patchEntry x track id pos d entry) image

/-- The context of a channel's copy. -/
def State.patchContext (s : State) (ch : ChannelNo) : PatchContext :=
  let copy := (s.chan ch).copy.getD CopyRecord.blank
  { serial := copy.serial.getD [], pad := s.job.pad, copyNumber := copy.copyNumber, channel := ch }

/-- The image's byte at a position of a sector: the slot's byte for the sector's index, or the fill byte (R4, R8, R32). -/
def State.imageByte (s : State) (source : Source) (id : Byte) (pos : Nat) : Byte :=
  match source with
  | .slot i => memRead s.store.slots[i].data (s.layout.indexOf id * s.layout.size + pos)
  | .fill => s.layout.fill

/-- The data bytes of a sector after patching, as the writer lays them down and as the verifier expects them (R105,
R112, R144). -/
def State.sectorData (s : State) (ch : ChannelNo) (source : Source) (track : Nat) (id : Byte) : List Byte :=
  (List.range s.layout.size).map fun pos =>
    patchByte s.tables.patches (s.patchContext ch) track id pos (s.imageByte source id pos)

/-! ### The track as it is written (R8, R10) -/

/-- The mark code of a data mark (R8). -/
def MarkKind.markCode : MarkKind → Byte
  | .normal => Config.codeNormal
  | .deleted => Config.codeDeleted

/-- The four header bytes of a sector: logical cylinder, head, sector id, size code (R6, R8). -/
def Layout.header (l : Layout) (track : Nat) (id : Byte) : List Byte :=
  [BitVec.ofNat 8 (l.cylinderOf track), BitVec.ofNat 8 (l.headOf track), id, BitVec.ofNat 8 l.sizeCode]

/-- Three mark-sync bytes and a mark code. -/
def markSymbols (code : Byte) : List Symbol := [.sync, .sync, .sync, .byte code]

/-- Bytes as symbols. -/
def byteSymbols (bs : List Byte) : List Symbol := bs.map .byte

/-- One sector as it is written, with gap B `g` (the table of R8). -/
def Layout.sectorSymbols (l : Layout) (track : Nat) (e : SectorEntry) (data : List Byte) (g : Nat) : List Symbol :=
  List.replicate l.syncRun (.byte 0x00)
    ++ markSymbols Config.codeHeader
    ++ byteSymbols (l.header track e.id)
    ++ byteSymbols (checkBytes (markCheck Config.codeHeader (l.header track e.id)))
    ++ List.replicate l.gapA (.byte l.fill)
    ++ List.replicate l.syncRun (.byte 0x00)
    ++ markSymbols e.kind.markCode
    ++ byteSymbols data
    ++ byteSymbols (checkBytes (markCheck e.kind.markCode data))
    ++ List.replicate g (.byte l.fill)

/-- The byte stream of a write revolution up to the last gap B: the lead-in and the sectors in physical order (R10,
R105). Fill bytes follow until the write ends. -/
def State.trackSymbols (s : State) (ch : ChannelNo) (source : Source) (track gap : Nat) : List Symbol :=
  List.replicate s.layout.leadIn (.byte s.layout.fill)
    ++ (s.layout.physical track).flatMap fun e =>
        s.layout.sectorSymbols track e (s.sectorData ch source track e.id) gap

/-- The symbol of the write at a position counted from the write start: beyond the last gap B, a fill byte (R10). -/
def State.writtenSymbol (s : State) (ch : ChannelNo) (position : Nat) : Symbol :=
  (s.chan ch).lines.writeData.getD position (.byte s.layout.fill)

/-- The write position: the bytes laid down since the write start, one per byte-time, while the write goes on and in the
verify revolution that follows it (R102, R105). -/
def Attempt.writePosition (a : Attempt) (density : Density) (now : Nat) : Nat :=
  match a.writeBegan with
  | none => 0
  | some began => (a.writeEnded.getD now - began) / density.byteNs

/-- The write position of a channel's attempt, at the clock. -/
def State.writePosition (s : State) (ch : ChannelNo) : Option Nat :=
  (s.chan ch).attempt.map fun a => a.writePosition s.layout.density s.now

end Sys2Proof.Machine
end

