-- ==== Sys2Proof/Machine/Window.lean ====
section
/-!
DEFINITION. Shared operations on the window and the pass: claims and the freeing of slots (R33 to R37), the starvation
timer (R56) and the closing of a pass (R52).
-/

namespace Sys2Proof.Machine

/-! ### Claims (R33 to R35) -/

/-- A channel leaves a slot's claim set; a COMPLETE slot whose claim set becomes empty becomes FREE (R34, R35). -/
def Slot.release (sl : Slot) (ch : ChannelNo) : Slot :=
  if setHas sl.claims ch then
    if sl.state = .complete ∧ setDrop sl.claims ch = 0 then sl.freed
    else { sl with claims := setDrop sl.claims ch }
  else sl

/-- A channel leaves the claim set of every slot that holds it (R34). -/
def State.leaveClaims (s : State) (ch : ChannelNo) : State :=
  { s with store := { s.store with slots := Vector.ofFn fun i => s.store.slots[i].release ch } }

/-- A channel that finishes a track leaves the claim set of the slot it was reading (R33). -/
def State.leaveSource (s : State) (ch : ChannelNo) (source : Source) : State :=
  match source with
  | .fill => s
  | .slot i => s.setSlot i (s.store.slots[i].release ch)

/-! ### The starvation timer (R56) -/

/-- The two conditions of R56: a pass of a STREAM job is open, and a live channel is in WAITING-TRACK. -/
def State.starving (s : State) : Bool :=
  s.passOpen && !s.formatOnly
    && channelsUp.any fun ch => setHas s.control.pass.live ch && (s.chan ch).state == .waitingTrack

/-- When the starvation timer, started now, would expire. -/
def State.starvationDue (s : State) : Nat := s.now + s.job.starvationTimeout * Config.sNs

/-- The timer starts when the conditions begin to hold and stops when they cease to (R56). -/
def State.syncStarvation (s : State) : State :=
  s.modControl fun p =>
    { p with starvation := if s.starving then some (p.starvation.getD s.starvationDue) else none }

/-- An accepted segment sets a running timer back to the full timeout (R30, R56). -/
def State.restartStarvation (s : State) : State :=
  s.modControl fun p => { p with starvation := p.starvation.map fun _ => s.starvationDue }

/-! ### The closing of a pass (R52) -/

/-- The closure report as it is formed at the closure (R52). -/
def State.closureReport (s : State) (reason : CloseReason) : Closure :=
  { tag := s.control.pass.tag
    reason := reason
    passed := s.control.pass.passed
    failed := s.control.pass.failed
    jobPassed := s.control.jobPassed
    quotaRemaining := if s.job.quota = 0 then none else some (s.job.quota - s.control.jobPassed) }

/-- The pass closes: the starvation timer stops, every slot is freed, and the closure report is held (R37, R52). -/
def State.closePass (s : State) (reason : CloseReason) : State :=
  { s with
    control :=
      { s.control with
        starvation := none
        pass :=
          { s.control.pass with
            state := .idle, closeReason := some reason, closure := some (s.closureReport reason) } }
    store := s.store.cleared }

end Sys2Proof.Machine
end

