-- ==== Sys2Proof/Machine/Segments.lean ====
section
/-!
DEFINITION. TRACK_SEGMENT: the checks of R21 to R28 in their order, and what each outcome does (R21 to R31).
-/

namespace Sys2Proof.Machine

/-- What the checks of R21 to R28 decide for a segment. -/
inductive SegmentFate where
  /-- Discarded and counted as stale (R21). -/
  | stale
  /-- Refused with SEGMENT-REFUSED (R22, R23, R25, R26). -/
  | refused (reason : SegmentReason)
  /-- Discarded without report, for a COMPLETE slot (R24). -/
  | discarded
  /-- Waits for a slot (R27). -/
  | waits
  /-- Written into the FILLING slot that holds its track (R24). -/
  | written (slot : Fin 8)
  /-- Allocated the lowest-numbered FREE slot (R28). -/
  | allocated (slot : Fin 8)
  deriving DecidableEq, Repr

/-- The checks against the layout in force (R23), in order. -/
def Layout.segmentReason (l : Layout) (body : List Byte) : Option SegmentReason :=
  if body.length < 4 then some .length
  else if l.tracks ≤ num1 body 1 then some .trackRange
  else if num1 body 3 = 0 ∨ l.n < num1 body 2 + num1 body 3 then some .sectorRange
  else if body.length ≠ 4 + num1 body 3 * l.size then some .length
  else none

/-- The checks on the slots and the fill cursor for track `t` (R24 to R28), in order. -/
def State.slotFate (s : State) (t : Nat) : SegmentFate :=
  match s.findSlot fun sl => sl.track == some t with
  | some i => if s.store.slots[i].state = .complete then .discarded else .written i
  | none =>
    if t < s.store.fillCursor then .refused .stale
    else if s.store.fillCursor < t then .refused .outOfOrder
    else
      match s.findSlot fun sl => sl.state == .filling with
      | some _ => .refused .predecessorIncomplete
      | none =>
        match s.findSlot fun sl => sl.state == .free with
        | some i => .allocated i
        | none => .waits

/-- The segment's body carries the tag of the open pass (R21). -/
def State.tagMatches (s : State) (body : List Byte) : Bool :=
  s.passOpen && body.head? == some s.control.pass.tag

/-- The fate of a segment (R21 to R28). -/
def State.segmentFate (s : State) (body : List Byte) : SegmentFate :=
  if s.tagMatches body then
    if s.formatOnly then .refused .noImage
    else
      match s.layout.segmentReason body with
      | some r => .refused r
      | none => s.slotFate (num1 body 1)
  else .stale

/-- The frame is a TRACK-SEGMENT that would be held waiting for a slot (R27). -/
def State.segmentWaits (s : State) (f : Frame) : Bool := f.kind == kindSegment && s.segmentFate f.body == .waits

/-- The sectors of a segment are written into a slot and join its present set (R24). -/
def Slot.written (sl : Slot) (l : Layout) (body : List Byte) : Slot :=
  { sl with
    data := memWrite sl.data (num1 body 2 * l.size) (body.drop 4)
    present := setAddRun sl.present (num1 body 2) (num1 body 3) }

/-- The lowest FREE slot takes a track, with the live set as its claim set (R28). -/
def Slot.allocated (sl : Slot) (t : Nat) (live : ChannelSet) : Slot :=
  { sl with state := .filling, track := some t, present := 0, claims := live }

/-- The sector-present set holds every index 0..n − 1 (R29). -/
def Slot.full (sl : Slot) (l : Layout) : Bool := (List.range l.n).all fun k => setHas sl.present k

/-- A channel of the claim set that waits for the track goes on to WAITING-INDEX (R29). -/
def Channel.trackReady (c : Channel) (claimed : Bool) (track : Option Nat) (now : Nat) : Channel :=
  if claimed ∧ c.state = .waitingTrack ∧ c.cursor = track ∧ track.isSome then c.enter .waitingIndex now else c

/-- A slot whose present set has become full completes, and the channels that wait for its track are told (R29). -/
def State.completeIfFull (s : State) (i : Fin 8) : State :=
  let sl := s.store.slots[i]
  if sl.full s.layout then
    (s.setSlot i { sl with state := .complete }).mapChans fun ch c =>
      c.trackReady (setHas sl.claims ch) sl.track s.now
  else s

/-- An accepted segment is written into a FILLING slot: the timer restarts when the sectors have been written, and the
slot may complete (R24, R29, R30). -/
def State.acceptSegment (s : State) (i : Fin 8) (body : List Byte) : State :=
  ((s.setSlot i (s.store.slots[i].written s.layout body)).restartStarvation.completeIfFull i).syncStarvation

/-- The slot allocated to a segment, and the fill cursor one further (R20, R28). -/
def State.allocate (s : State) (i : Fin 8) (t : Nat) : State :=
  { s with
    store :=
      { s.store with
        slots := s.store.slots.set i (s.store.slots[i].allocated t s.control.pass.live)
        fillCursor := s.store.fillCursor + 1 } }

/-- What a fate does; the frame leaves its entry, unless it waits (R31). -/
def State.applyFate (s : State) (body : List Byte) (fate : SegmentFate) : State :=
  match fate with
  | .stale => (s.modLink fun l => { l with staleSegments := countUp l.staleSegments }).dropHead
  | .refused r => (s.place (.segmentRefused (byteAt body 0) (byteAt body 1) r)).dropHead
  | .discarded => s.dropHead
  | .waits => s
  | .written i => (s.acceptSegment i body).dropHead
  | .allocated i => ((s.allocate i (num1 body 1)).acceptSegment i body).dropHead

/-- A TRACK-SEGMENT at the head is taken, or taken again, when a report entry is free (R21, R27, R170). -/
def execTrackSegment (s : State) : Host.Outcome State Fault Refusal :=
  .next <|
    match s.headFrame with
    | none => s
    | some f =>
      if f.kind = kindSegment ∧ f.entriesNeeded ≤ s.freeEntries then s.applyFate f.body (s.segmentFate f.body) else s

end Sys2Proof.Machine
end

