-- ==== Sys2Proof/Machine/Copies.lean ====
section
/-!
DEFINITION. The end of a copy (R51, R78, R130) with the closing of the pass by its last copy (R37, R52), the abort of a
pass (R54, R57), and the taking of the head frame (R170).
-/

namespace Sys2Proof.Machine

/-! ### The end of a copy (R51, R78, R130) -/

/-- How a copy ends: PASSED, or FAILED with a reason and a sort (R78). -/
inductive CopyEnd where
  | passed
  | failed (reason : CopyReason) (sort : Option Strobe)
  deriving DecidableEq, Repr

/-- The outcome. -/
def CopyEnd.outcome : CopyEnd → CopyOutcome
  | .passed => .passed
  | .failed _ _ => .failed

/-- The reason, absent for PASSED. -/
def CopyEnd.reason : CopyEnd → Option CopyReason
  | .passed => none
  | .failed r _ => some r

/-- The sort (R78): ACCEPT for PASSED. -/
def CopyEnd.sort : CopyEnd → Option Strobe
  | .passed => some .accept
  | .failed _ st => st

/-- The disposition of a bound serial record (the table of R130). -/
def CopyEnd.disposition (e : CopyEnd) (policy : SerialPolicy) : Disposition :=
  match e, policy with
  | .passed, _ => .issued
  | .failed _ _, .reissue => .reissued
  | .failed _ _, .void => .voided

/-- The failing track: the cursor at a failure outside RECALIBRATING, and absent otherwise (R61, R180; log entry 9). -/
def CopyEnd.failingTrack (e : CopyEnd) (c : Channel) : Option Nat :=
  match e with
  | .passed => none
  | .failed _ _ => if c.state = .recalibrating then none else c.cursor

/-- The copy record with its outcome decided (R61, R78, R130). -/
def CopyRecord.decided (r : CopyRecord) (e : CopyEnd) (c : Channel) (policy : SerialPolicy) : CopyRecord :=
  { r with
    outcome := e.outcome
    reason := e.reason
    failingTrack := e.failingTrack c
    sort := e.sort
    disposition := r.serial.map fun _ => e.disposition policy }

/-- The COPY-RESULT of a decided copy record (R81, R180). -/
def CopyRecord.result (r : CopyRecord) (ch : ChannelNo) : CopyResult :=
  { channel := ch
    copyNumber := r.copyNumber
    passTag := r.passTag
    outcome := r.outcome
    retriesUsed := r.retriesUsed
    reason := r.reason
    failingTrack := r.failingTrack
    leastGap := r.leastGap
    serial :=
      match r.serial, r.disposition with
      | some v, some d => some (v, d)
      | _, _ => none
    verifyDetail := if r.outcome = .failed then r.verifyDetail else none }

/-- The Pass Controller takes the end of a copy (R51). -/
def PassControl.takeEnd (p : PassControl) (ch : ChannelNo) (e : CopyEnd) : PassControl :=
  match e with
  | .passed =>
    { p with
      jobPassed := countUp p.jobPassed
      pass := { p.pass with live := setDrop p.pass.live ch, passed := p.pass.passed + 1 } }
  | .failed _ _ => { p with pass := { p.pass with live := setDrop p.pass.live ch, failed := p.pass.failed + 1 } }

/-- The pool after the end of a copy: a bound record REISSUED joins the queue at the head (R130). -/
def poolAfterEnd (pool : List Serial) (bound : Option Serial) (d : Disposition) : List Serial :=
  match bound, d with
  | some v, .reissued => v :: pool
  | _, _ => pool

/-- What the channel does at the end of its copy: steps 1, 3, 4 and 5 of R78. -/
def Channel.ended (c : Channel) (ch : ChannelNo) (e : CopyEnd) (policy : SerialPolicy) (now : Nat) : Channel :=
  let copy := (c.copy.getD CopyRecord.blank).decided e c policy
  ({ c.dropAttempt with
      stepTimer := none, settleTimer := none, recoveryTimer := none, cursor := none, copy := some copy }
      : Channel).enter .reporting now |>.applyPending |>.hold (.copyResult (copy.result ch))

/-- The end of one copy (R78), before the pass is looked at: the channel leaves its claims, the Pass Controller takes the
end, the serial record meets its disposition, and the channel enters REPORTING. -/
def State.endCopyOnly (s : State) (ch : ChannelNo) (e : CopyEnd) : State :=
  let c := s.chan ch
  let policy := s.job.serialPolicy
  let freed := s.leaveClaims ch
  { freed with
    control := s.control.takeEnd ch e
    pool := poolAfterEnd s.pool c.bound (e.disposition policy)
    channels := s.channels.set ch (c.ended ch e policy s.now) }

/-- A waiting segment, woken, is taken into the lowest-numbered FREE slot: what R21 to R27 checked before it waited stands
as it was (R27, R28, R35). -/
def State.takeWoken (s : State) (body : List Byte) : State :=
  match s.findSlot fun sl => sl.state == .free with
  | none => s
  | some i => ((s.allocate i (num1 body 1)).acceptSegment i body).dropHead

/-- The last copy's end frees slots, which wakes a segment that waited for one, and it closes the pass. The manual leaves
open which comes first (R37), a free value: with the waking first the segment is taken in the open pass, into a freed
slot; else it stays for a later TRACK_SEGMENT. `before` is the state before the end (log entry 24). -/
def State.wakeSegment (s before : State) : State :=
  match before.headFrame with
  | none => s
  | some f =>
    if before.segmentWaits f ∧ f.entriesNeeded ≤ s.freeEntries then
      let s' : State := { s with store := { s.store with wakings := s.store.wakings + 1 } }
      if Config.wakingFirst s.store.wakings then s'.takeWoken f.body else s'
    else s

/-- An open pass whose live set is empty closes (R52). -/
def State.closeIfOver (s before : State) : State :=
  if s.passOpen && s.control.pass.live == 0 then (s.wakeSegment before).closePass .completed else s

/-- The end of a copy on its own (R51, R52, R78): the pass closes COMPLETED with its last live copy, and the starvation
timer follows its conditions. -/
def State.endCopy (s : State) (ch : ChannelNo) (e : CopyEnd) : State :=
  ((s.endCopyOnly ch e).closeIfOver s).syncStarvation

/-- A live copy fails with the pass (R54, R57). -/
def State.abortOne (reason : CopyReason) (s : State) (ch : ChannelNo) : State :=
  if setHas s.control.pass.live ch then s.endCopyOnly ch (.failed reason (some .reject)) else s

/-- Every live copy fails in one event, the serial records returned in descending channel number, and the pass closes
(R54, R57, R131). -/
def State.abortPass (s : State) (reason : CopyReason) (close : CloseReason) : State :=
  (channelsDown.foldl (State.abortOne reason) s).closePass close

/-! ### Taking the head frame (R170) -/

/-- A command of a frame kind takes the head frame: the head is of that kind, enough report entries are free, and its
body is one this command is for. A body of the wrong length is answered with FRAME-ERROR LENGTH; a frame that is
taken leaves its entry. With no such head, or too few entries, nothing is taken (R170, R171). -/
def State.takeFrame (s : State) (kind : Byte) (mine : List Byte → Bool) (act : List Byte → State → State) : State :=
  match s.headFrame with
  | none => s
  | some f =>
    if f.kind = kind ∧ f.entriesNeeded ≤ s.freeEntries then
      if f.lengthOk then (if mine f.body then (act f.body s).dropHead else s)
      else (s.place (.frameError .length (some kind))).dropHead
    else s

end Sys2Proof.Machine
end

