-- ==== Sys2Proof/Machine/ChannelControl.lean ====
section
/-!
DEFINITION. CHANNEL-CONTROL (R86 to R88): ENABLE, DISABLE, RESET and the refusals.
-/

namespace Sys2Proof.Machine

abbrev actionEnable : Byte := 0x01
abbrev actionDisable : Byte := 0x02
abbrev actionReset : Byte := 0x03

/-- The frame names a channel 0..7 and this action. -/
def controlIs (action : Byte) (body : List Byte) : Bool := decide (num1 body 0 < 8) && byteAt body 1 == action

/-- The channel the frame names, for a number 0..7. -/
def controlChannel (body : List Byte) : ChannelNo := ⟨num1 body 0 % 8, Nat.mod_lt _ (by decide)⟩

/-- The channel field is greater than 7, or the action names none. -/
def controlRefused (body : List Byte) : Bool :=
  decide (8 ≤ num1 body 0)
    || !(byteAt body 1 == actionEnable || byteAt body 1 == actionDisable || byteAt body 1 == actionReset)

/-- ENABLE of a channel (R86). -/
def State.enable (s : State) (ch : ChannelNo) : State :=
  s.modChan ch fun c => (c.setEnabled true).actEnable ch s.now

/-- DISABLE of a channel (the table of R87). -/
def State.disable (s : State) (ch : ChannelNo) : State :=
  let s' := s.modChan ch fun c => c.setEnabled false
  if (s.chan ch).state.isCopy then s'.endCopy ch (.failed .channelDisabled (some .reject))
  else s'.modChan ch fun c => c.actDisable s.now

/-- The copy's part of a channel reset (step 1 of R88): a copy in progress fails with CHANNEL-RESET and sort NONE, and a
copy in REPORTING gets sort NONE. -/
def State.resetCopy (s : State) (ch : ChannelNo) : State :=
  if (s.chan ch).state.isCopy then s.endCopy ch (.failed .channelReset none)
  else if (s.chan ch).state = .reporting then s.modChan ch fun c => c.modCopy fun r => { r with sort := none }
  else s

/-- RESET of a channel (R88). -/
def State.channelReset (s : State) (ch : ChannelNo) : State :=
  (s.resetCopy ch).modChan ch fun c => c.resetAfterCopy ch s.now

/-- CHANNEL_ENABLE (R86). -/
def execChannelEnable (s : State) : Host.Outcome State Fault Refusal :=
  .next <| s.takeFrame kindChannelControl (controlIs actionEnable) fun body st => st.enable (controlChannel body)

/-- CHANNEL_DISABLE (R87). -/
def execChannelDisable (s : State) : Host.Outcome State Fault Refusal :=
  .next <| s.takeFrame kindChannelControl (controlIs actionDisable) fun body st => st.disable (controlChannel body)

/-- CHANNEL_RESET (R88). -/
def execChannelReset (s : State) : Host.Outcome State Fault Refusal :=
  .next <| s.takeFrame kindChannelControl (controlIs actionReset) fun body st => st.channelReset (controlChannel body)

/-- CHANNEL_CONTROL_REFUSED (R86): CHANNEL-RANGE before VALUE, detail 0. -/
def execChannelControlRefused (s : State) : Host.Outcome State Fault Refusal :=
  .next <| s.takeFrame kindChannelControl controlRefused fun body st =>
    st.place (.commandRefused kindChannelControl (if 8 ≤ num1 body 0 then .channelRange else .value) 0)

end Sys2Proof.Machine
end

