-- ==== Sys2Proof/Machine/Revolution.lean ====
section
/-!
DEFINITION. Attempts (chapter 6, R11 to R15, R74 to R76): beginning an attempt, the write revolution, the verify
revolution, the judgements at the ending edges, and the commands WRITE_START, LAST_CHECK_WRITTEN,
WRITE_PROTECT_ASSERTED, VERIFY_DELAY_END, HEADER_MARK_READ and DATA_FIELD_READ.
-/

namespace Sys2Proof.Machine

/-! ### Failed attempts (R75) -/

/-- The kinds of failed attempt (R75). -/
inductive FailKind where
  | overBudget | truncated | speed | protect | verify
  deriving DecidableEq, Repr

/-- The reason of a copy that fails on an attempt of this kind (the table of R75). -/
def FailKind.reason : FailKind → CopyReason
  | .overBudget => .overBudget
  | .truncated => .truncatedWrite
  | .speed => .speedFault
  | .protect => .writeProtected
  | .verify => .verifyFailed

/-- The channel after a failed attempt is counted: the attempt record is discarded, WRITE GATE is off, the track's attempt
count and the copy's retries used rise by one, a verify detail replaces the copy's (R75, R115), and the channel is in
WAITING-INDEX. -/
def Channel.attemptLost (c : Channel) (detail : Option VerifyDetail) (now : Nat) : Channel :=
  ({ c.dropAttempt with attempts := c.attempts + 1 } : Channel).modCopy (fun r =>
      { r with retriesUsed := r.retriesUsed + 1, verifyDetail := detail <|> r.verifyDetail })
    |>.enter .waitingIndex now

/-- A failed attempt (R75): the copy fails when retry limit + 1 attempts have been made on the track, and else the channel
waits for the next edge. -/
def State.attemptFailed (s : State) (ch : ChannelNo) (kind : FailKind) (detail : Option VerifyDetail) : State :=
  let s' := s.modChan ch fun c => c.attemptLost detail s.now
  if s.job.retryLimit + 1 ≤ (s'.chan ch).attempts then s'.endCopy ch (.failed kind.reason (some .reject)) else s'

/-! ### A finished track (R74, R114) -/

/-- The channel goes on to the next track: the cursor advances, the attempt count becomes 0 and the seek begins (R74). -/
def State.nextTrack (s : State) (ch : ChannelNo) (t : Nat) : State :=
  s.modChan ch fun c =>
    ({ c with cursor := some t, attempts := 0 } : Channel).enterSeeking (s.physicalCylinder t) (s.layout.headOf t) s.now

/-- A finished track: the attempt record is discarded and the verify detail becomes absent, the channel leaves the slot's
claim set, and goes on to the next track, or its copy passes after the last (R33, R74, R114). -/
def State.finishTrack (s : State) (ch : ChannelNo) (a : Attempt) : State :=
  let s' := (s.modChan ch fun c => c.dropAttempt.modCopy fun r => { r with verifyDetail := none }).leaveSource ch a.source
  if s.layout.tracks ≤ a.track + 1 then s'.endCopy ch .passed else s'.nextTrack ch (a.track + 1)

/-! ### Beginning an attempt (R11, R103) -/

/-- The source of an attempt on a track: FILL in a format-only pass, else the COMPLETE slot that holds it (R103). -/
def State.attemptSource (s : State) (t : Nat) : Option Source :=
  if s.formatOnly then some .fill else (s.completeSlot t).map .slot

/-- The write start is reached: WRITE PROTECT is sampled; WRITE GATE goes on and the byte stream begins, or the attempt
fails PROTECTED (R104, R105). -/
def State.writeStart (s : State) (ch : ChannelNo) (a : Attempt) : State :=
  if (s.chan ch).lines.writeProtect then s.attemptFailed ch .protect none
  else
    s.modChan ch fun c =>
      { c with
        attempt := some { a with phase := .write, writeBegan := some (a.startEdge + s.job.writeDelay * Config.usNs) }
        lines := { c.lines with writeGate := true, writeData := s.trackSymbols ch a.source a.track a.gap } }

/-- The attempt record that a fitting budget creates at an edge (R102, R103). The manual gives the outcome list no value
before the verify revolution sets it (R108): DESIGN CHOICE, it is empty until then (log entry 25). -/
def State.newAttempt (s : State) (source : Source) (t gap edge : Nat) : Attempt :=
  { source := source
    track := t
    gap := gap
    order := (s.layout.physical t).map (·.id)
    phase := .delay
    startEdge := edge
    writeBegan := none
    writeEnded := none
    lastCheck := false
    outcomes := []
    search := .discarding }

/-- The budget fits: the attempt record is created, the least gap B is kept, and WRITING is entered; with a write start
delay of 0 the write start is reached at once (R15, R103, R104). -/
def State.beginWrite (s : State) (ch : ChannelNo) (a : Attempt) : State :=
  let s' := s.modChan ch fun c =>
    ({ c with attempt := some a } : Channel).modCopy (fun r => { r with leastGap := leastGapWith r.leastGap a.gap })
      |>.enter .writing s.now
  if s.job.writeDelay = 0 then s'.writeStart ch a else s'

/-- A leading edge at time `t` taken in WAITING-INDEX with STABLE yes: the budget is computed, and either begins the write
revolution or is over (R11 to R13, R103). -/
def State.beginAttempt (s : State) (ch : ChannelNo) (t : Nat) : State :=
  let c := s.chan ch
  match s.attemptSource (c.cursor.getD 0) with
  | none => s
  | some source =>
    match s.layout.budget (c.monitor.planning.getD 0) s.job.writeDelay with
    | none => s.attemptFailed ch .overBudget none
    | some g => s.beginWrite ch (s.newAttempt source (c.cursor.getD 0) g t)

/-! ### The write revolution (R104 to R107) -/

/-- The attempt enters its verify revolution at an edge (R107 case 4, R108): the write position stays where the edge finds
it, every sector is NO-HEADER, and the search begins when d has passed, at once if d is 0. -/
def Attempt.reading (a : Attempt) (edge now delay : Nat) : Attempt :=
  { a with
    phase := .read, startEdge := edge, writeEnded := some now
    outcomes := a.order.map fun id => ⟨id, .noHeader, false⟩
    search := if delay = 0 then .searching else .discarding }

/-- The edge at time `t` that ends a write revolution, `stable` as the monitor left it: WRITE GATE goes off, and the
revolution is judged for speed, truncation and the verify level, in this order (R107). -/
def State.endWrite (s : State) (ch : ChannelNo) (a : Attempt) (stable : Bool) (t : Nat) : State :=
  let s' := s.modChan ch fun c => c.modLines fun l => { l with writeGate := false, writeData := [] }
  if !stable then s'.attemptFailed ch .speed none
  else if !a.lastCheck then s'.attemptFailed ch .truncated none
  else if s.layout.verify = .off then s'.finishTrack ch a
  else
    s'.modChan ch fun c =>
      ({ c with attempt := some (a.reading t s.now s.job.writeDelay) } : Channel).enter .verifying s.now

/-! ### The verify revolution (R108 to R115) -/

/-- Sets the outcome of an entry of the outcome list. -/
def Attempt.setOutcome (a : Attempt) (i : Nat) (o : SectorOutcome) : Attempt :=
  { a with outcomes := a.outcomes.modify i fun r => { r with outcome := o } }

/-- A matched header whose data field is not read gives its sector DATA-CHECK (R110, R113). -/
def Attempt.loseField (a : Attempt) : Attempt :=
  match a.search with
  | .awaiting i => a.setOutcome i .dataCheck
  | .discarding | .searching => a

/-- The verify detail of an outcome list: the number of entries not GOOD and the first of them in physical order (R115). -/
def verifyDetailOf (outcomes : List SectorResult) : Option VerifyDetail :=
  match outcomes.filter fun r => decide (r.outcome ≠ .good) with
  | [] => none
  | r :: rest => some ⟨rest.length + 1, r.id, r.outcome⟩

/-- The edge that ends a verify revolution: judged for speed, then by the outcome list (R113 to R115). -/
def State.endVerify (s : State) (ch : ChannelNo) (a : Attempt) (stable : Bool) : State :=
  if !stable then s.attemptFailed ch .speed none
  else
    match verifyDetailOf a.loseField.outcomes with
    | none => s.finishTrack ch a
    | some detail => s.attemptFailed ch .verify (some detail)

/-- The place in the outcome list of the sector a header matches, if it is one of the layout's on the attempt's track and
not yet matched in this revolution (R109). -/
def Attempt.matchHeader (a : Attempt) (l : Layout) (header : List Byte) : Option Nat :=
  a.outcomes.findIdx? fun r => !r.matched && header == l.header a.track r.id

/-- A header mark with its header and check, in the search (R109, R110). -/
def Attempt.headerRead (a : Attempt) (l : Layout) (header : List Byte) (check : Check) : Attempt :=
  let lost := a.loseField
  if markCheck Config.codeHeader header ≠ check then { lost with search := .searching }
  else
    match lost.matchHeader l header with
    | none => { lost with search := .searching }
    | some i =>
      { lost with
        search := .awaiting i
        outcomes := lost.outcomes.modify i fun r => { r with matched := true } }

/-- The mark kind of the list entry with an id (R111). -/
def Layout.kindOf (l : Layout) (id : Byte) : Option MarkKind := (l.sectors.find? fun e => e.id == id).map (·.kind)

/-- The outcome of a sector whose data field was read (the table of R111); `expected` are its expected bytes (R112). -/
def sectorOutcome (l : Layout) (id code : Byte) (data : List Byte) (check : Check) (expected : List Byte) :
    SectorOutcome :=
  if markCheck code data ≠ check then .dataCheck
  else if (l.kindOf id).map MarkKind.markCode ≠ some code then .markKind
  else if l.verify = .compare ∧ data ≠ expected then .mismatch
  else .good

/-- Two check bytes as they are read, high byte first (R9). -/
def readCheck (bs : List Byte) : Check := byteAt bs 0 ++ byteAt bs 1

/-- A data mark with the bytes that follow it (R109 to R111): with no matched header it is passed over, and a field that
is not read to the end of its check stays awaited (R113). -/
def State.dataRead (s : State) (ch : ChannelNo) (a : Attempt) (code : Byte) (bytes : List Byte) : Attempt :=
  match a.search with
  | .discarding | .searching => a
  | .awaiting i =>
    if (code = Config.codeNormal ∨ code = Config.codeDeleted) ∧ s.layout.size + 2 ≤ bytes.length then
      match a.outcomes[i]? with
      | none => { a with search := .searching }
      | some r =>
        { a.setOutcome i
            (sectorOutcome s.layout r.id code (bytes.take s.layout.size) (readCheck (bytes.drop s.layout.size))
              (s.sectorData ch a.source a.track r.id)) with
          search := .searching }
    else a

/-! ### The commands -/

/-- Acts on the attempt record of a channel in WRITING and a phase, or in VERIFYING. -/
def State.withAttempt (s : State) (ch : ChannelNo) (st : ChState) (phase : Phase) (f : Attempt → State) : State :=
  match (s.chan ch).attempt with
  | none => s
  | some a => if (s.chan ch).state = st ∧ a.phase = phase then f a else s

/-- Replaces the attempt record of a channel. -/
def State.setAttempt (s : State) (ch : ChannelNo) (a : Attempt) : State :=
  s.modChan ch fun c => { c with attempt := some a }

/-- The drive's WRITE PROTECT line shows this level. -/
def State.seeProtect (s : State) (ch : ChannelNo) (level : Bool) : State :=
  s.modChan ch fun c => c.modLines fun l => { l with writeProtect := level }

/-- WRITE_START (R104): the delay d after the starting edge passes. -/
def execWriteStart (ch : ChannelNo) (writeProtect : Bool) (s : State) : Host.Outcome State Fault Refusal :=
  .next <| s.withAttempt ch .writing .delay fun a =>
    ((s.reach (a.startEdge + s.job.writeDelay * Config.usNs)).seeProtect ch writeProtect).writeStart ch a

/-- LAST_CHECK_WRITTEN (R105): last check written becomes yes. -/
def execLastCheckWritten (ch : ChannelNo) (s : State) : Host.Outcome State Fault Refusal :=
  .next <| s.withAttempt ch .writing .write fun a =>
    (s.reach (a.writeBegan.getD 0 + s.layout.bytesToLastCheck a.gap * s.layout.density.byteNs)).setAttempt ch
      { a with lastCheck := true }

/-- WRITE_PROTECT_ASSERTED (R106): the line shows the media protected; while WRITE GATE is on, the attempt fails
PROTECTED. -/
def execWriteProtectAsserted (ch : ChannelNo) (s : State) : Host.Outcome State Fault Refusal :=
  .next <|
    let s' := s.seeProtect ch true
    s'.withAttempt ch .writing .write fun _ => s'.attemptFailed ch .protect none

/-- VERIFY_DELAY_END (R108): the search of READ DATA begins. -/
def execVerifyDelayEnd (ch : ChannelNo) (s : State) : Host.Outcome State Fault Refusal :=
  .next <| s.withAttempt ch .verifying .read fun a =>
    if a.search = .discarding then
      (s.reach (a.startEdge + s.job.writeDelay * Config.usNs)).setAttempt ch { a with search := .searching }
    else s

/-- HEADER_MARK_READ (R109). What is read during the delay is discarded (R108). -/
def execHeaderMarkRead (ch : ChannelNo) (cylinder head sector size : Byte) (check : Check) (s : State) :
    Host.Outcome State Fault Refusal :=
  .next <| s.withAttempt ch .verifying .read fun a =>
    if a.search = .discarding then s
    else s.setAttempt ch (a.headerRead s.layout [cylinder, head, sector, size] check)

/-- DATA_FIELD_READ (R111). -/
def execDataFieldRead (ch : ChannelNo) (code : Byte) (bytes : List Byte) (s : State) :
    Host.Outcome State Fault Refusal :=
  .next <| s.withAttempt ch .verifying .read fun a => s.setAttempt ch (s.dataRead ch a code bytes)

end Sys2Proof.Machine
end

