-- ==== Sys2Proof/Machine/Drives.lean ====
section
/-!
DEFINITION. The other events of a drive channel (chapter 4): the media-present line, the held reports, recalibration and
seeking, and the channel's timers.
-/

namespace Sys2Proof.Machine

/-! ### The media-present line (R66, R79) -/

/-- The media-present line shows this level. -/
def State.seeMedia (s : State) (ch : ChannelNo) (level : Bool) : State :=
  s.modChan ch fun c => c.modLines fun l => { l with mediaPresent := level }

/-- MEDIA_PRESENT (R66, R79): an EMPTY channel enters SPINUP. -/
def execMediaPresent (ch : ChannelNo) (s : State) : Host.Outcome State Fault Refusal :=
  .next <|
    let s' := s.seeMedia ch true
    if (s.chan ch).state = .empty then s'.modChan ch fun c => c.enterSpinup ch s.now else s'

/-- MEDIA_ABSENT (the table of R79, R83, R84). -/
def execMediaAbsent (ch : ChannelNo) (s : State) : Host.Outcome State Fault Refusal :=
  .next <|
    let s' := s.seeMedia ch false
    match (s.chan ch).state with
    | .offline | .empty | .reporting | .rejecting => s'
    | .spinup | .ready | .stopped => s'.modChan ch fun c => c.leaveFor .empty s.now
    | .recalibrating | .seeking | .waitingTrack | .waitingIndex | .writing | .verifying =>
      s'.endCopy ch (.failed .mediaRemoved none)
    | .sorting =>
      if (s.chan ch).strobing then s'.modChan ch fun c => { c with removalNoted := true }
      else s'.modChan ch fun c => c.rearm ch s.now
    | .unload | .jammed => s'.modChan ch fun c => c.rearm ch s.now

/-! ### Held reports (R80 to R82) -/

/-- A channel leaves the enrolled set (R51). -/
def State.leaveEnrolled (s : State) (ch : ChannelNo) : State :=
  s.modPass fun p => { p with enrolled := setDrop p.enrolled ch }

/-- What follows the placing of a channel's report: a COPY-RESULT in REPORTING and a WRITE-PROTECTED or SPIN-FAULT in
REJECTING move the channel on (R81, R82); the other events do not. -/
def State.afterPlaced (s : State) (ch : ChannelNo) (r : Report) : State :=
  match r, (s.chan ch).state with
  | .copyResult _, .reporting =>
    (s.leaveEnrolled ch).modChan ch fun c =>
      ({ c with copy := none } : Channel).afterResult ch (c.copy.bind (·.sort)) s.now
  | .channelEvent _ .writeProtected, .rejecting => s.modChan ch fun c => c.afterEvent ch s.now
  | .channelEvent _ .spinFault, .rejecting => s.modChan ch fun c => c.afterEvent ch s.now
  | _, _ => s

/-- HELD_REPORT_PLACED (R80): a channel given a free entry places the oldest report of its list. -/
def execHeldReportPlaced (ch : ChannelNo) (writeProtect : Bool) (s : State) : Host.Outcome State Fault Refusal :=
  .next <|
    match (s.chan ch).held with
    | [] => s
    | r :: rest =>
      if 0 < s.freeEntries then
        (((s.seeProtect ch writeProtect).place r).modChan ch fun c => { c with held := rest }).afterPlaced ch r
      else s

/-! ### Recalibration and seeking (R70 to R73) -/

/-- RECAL_STEP_INTERVAL (R70): TRACK ZERO is looked at; the channel goes on to SEEKING, fails RECAL-FAILED after the 90th
step, or gives another step. -/
def execRecalStepInterval (ch : ChannelNo) (trackZero : Bool) (s : State) : Host.Outcome State Fault Refusal :=
  .next <|
    let c := s.chan ch
    if c.state = .recalibrating ∧ c.stepTimer.isSome then
      let s' := (s.reachTimer c.stepTimer).modChan ch fun c => c.modLines fun l => { l with trackZero := trackZero }
      if trackZero then
        s'.modChan ch fun c =>
          ({ c with cylinder := some 0 } : Channel).enterSeeking (s.physicalCylinder (c.cursor.getD 0))
            (s.layout.headOf (c.cursor.getD 0)) s'.now
      else if Config.recalSteps ≤ c.recalSteps then s'.endCopy ch (.failed .recalFailed (some .reject))
      else s'.modChan ch fun c => { c.pulse s'.now with recalSteps := c.recalSteps + 1 }
    else s

/-- SEEK_STEP_INTERVAL (R71): the next step, or HEAD SELECT and the settle. -/
def execSeekStepInterval (ch : ChannelNo) (s : State) : Host.Outcome State Fault Refusal :=
  .next <|
    let c := s.chan ch
    if c.state = .seeking ∧ c.stepTimer.isSome then
      let s' := s.reachTimer c.stepTimer
      s'.modChan ch fun c =>
        c.seekOn (s.physicalCylinder (c.cursor.getD 0)) (s.layout.headOf (c.cursor.getD 0)) s'.now
    else s

/-- The track at the cursor is ready: in a format-only pass, or in a COMPLETE slot (R58, R73). -/
def State.trackIsReady (s : State) (t : Nat) : Bool := s.formatOnly || (s.completeSlot t).isSome

/-- SETTLE_END (R71 to R73): the precompensation is loaded, the attempt count becomes 0 for the new track, and the channel
enters WAITING-TRACK, going on at once if its track is ready. -/
def execSettleEnd (ch : ChannelNo) (s : State) : Host.Outcome State Fault Refusal :=
  .next <|
    let c := s.chan ch
    if c.state = .seeking ∧ c.settleTimer.isSome then
      let s' := s.reachTimer c.settleTimer
      let st : ChState := if s.trackIsReady (c.cursor.getD 0) then .waitingIndex else .waitingTrack
      (s'.modChan ch fun c =>
        ({ c with settleTimer := none, activePrecomp := c.precompValue s.precomp, attempts := 0 } : Channel).enter st
          s'.now).syncStarvation
    else s

/-! ### Timers (R67, R68, R76, R83, R84) -/

/-- SPIN_UP_TIMEOUT (R67). -/
def execSpinUpTimeout (ch : ChannelNo) (s : State) : Host.Outcome State Fault Refusal :=
  .next <|
    let c := s.chan ch
    if c.state = .spinup ∧ c.spinUpTimer.isSome then
      let s' := s.reachTimer c.spinUpTimer
      s'.modChan ch fun c => c.enterRejecting ch .spinFault s'.now
    else s

/-- IDLE_TIMEOUT (R68): the motor stops, and SPINDLE-STOPPED joins the held reports. -/
def execIdleTimeout (ch : ChannelNo) (s : State) : Host.Outcome State Fault Refusal :=
  .next <|
    let c := s.chan ch
    if c.state = .ready ∧ c.idleTimer.isSome then
      let s' := s.reachTimer c.idleTimer
      s'.modChan ch fun c => (c.leaveFor .stopped s'.now).holdOnce (.channelEvent ch .spindleStopped)
    else s

/-- RECOVERY_TIMEOUT (R76): the copy fails with SPEED-FAULT. -/
def execRecoveryTimeout (ch : ChannelNo) (s : State) : Host.Outcome State Fault Refusal :=
  .next <|
    let c := s.chan ch
    if c.state.isCopy ∧ c.recoveryTimer.isSome then
      (s.reachTimer c.recoveryTimer).endCopy ch (.failed .speedFault (some .reject))
    else s

/-- SORT_DELAY_END (R83): the strobe starts. -/
def execSortDelayEnd (ch : ChannelNo) (s : State) : Host.Outcome State Fault Refusal :=
  .next <|
    let c := s.chan ch
    if c.state = .sorting ∧ c.sortTimer.isSome ∧ c.strobing = false then
      let s' := s.reachTimer c.sortTimer
      s'.modChan ch fun c => c.startStrobe s'.now
    else s

/-- STROBE_END (R83): UNLOAD, or re-arm if a removal was noted. -/
def execStrobeEnd (ch : ChannelNo) (s : State) : Host.Outcome State Fault Refusal :=
  .next <|
    let c := s.chan ch
    if c.state = .sorting ∧ c.strobing then
      let s' := s.reachTimer c.sortTimer
      s'.modChan ch fun c => c.endStrobe ch s'.now
    else s

/-- EJECT_TIMEOUT (R84): JAMMED, and its event joins the held reports. -/
def execEjectTimeout (ch : ChannelNo) (s : State) : Host.Outcome State Fault Refusal :=
  .next <|
    let c := s.chan ch
    if c.state = .unload ∧ c.ejectTimer.isSome then
      let s' := s.reachTimer c.ejectTimer
      s'.modChan ch fun c =>
        ({ c.enter .jammed s'.now with ejectTimer := none } : Channel).holdOnce (.channelEvent ch .jammed)
    else s

end Sys2Proof.Machine
end

