-- ==== Sys2Proof/Machine/Index.lean ====
section
/-!
DEFINITION. The events of the INDEX line (chapter 5): INDEX_LEADING_EDGE, INDEX_TRAILING_EDGE and INDEX_TIMEOUT, with what
the channel does on them by its state (R95, R97, R99).
-/

namespace Sys2Proof.Machine

/-- The channel receives a leading edge at time `t`, the monitor having dealt with it (R92, R95): `before` is the monitor
before the edge. -/
def State.edgeToChannel (s : State) (ch : ChannelNo) (before : Monitor) (t : Nat) : State :=
  let c := s.chan ch
  let after := c.monitor
  let recovered := s.modChan ch fun c => c.recover before after s.now
  match c.state with
  | .spinup => if stableReached before after then s.modChan ch fun c => c.stableInSpinup ch s.now else s
  | .ready => if stableLost before after then s.modChan ch fun c => c.readyLost ch s.now else s
  | .recalibrating | .seeking | .waitingTrack => recovered
  | .waitingIndex => if after.stable then recovered.beginAttempt ch t else recovered
  | .writing =>
    match c.attempt with
    | some a => recovered.endWrite ch a after.stable t
    | none => recovered
  | .verifying =>
    match c.attempt with
    | some a => recovered.endVerify ch a after.stable
    | none => recovered
  | .offline | .empty | .stopped | .reporting | .rejecting | .sorting | .unload | .jammed => s

/-- INDEX_LEADING_EDGE (R92): measured by a running monitor, and then handed to the channel. -/
def execIndexLeadingEdge (ch : ChannelNo) (t : Nat) (writeProtect : Bool) (s : State) :
    Host.Outcome State Fault Refusal :=
  .next <|
    let seen := (s.reach t).modChan ch fun c =>
      c.modLines fun l => { l with index := true, writeProtect := writeProtect }
    let before := (s.chan ch).monitor
    if before.running then
      (seen.modChan ch fun c => { c with monitor := c.monitor.leadingEdge c.active t seen.now }).edgeToChannel ch before t
    else seen

/-- INDEX_TRAILING_EDGE (R93): a running monitor with a pulse in progress measures its width. -/
def execIndexTrailingEdge (ch : ChannelNo) (t : Nat) (s : State) : Host.Outcome State Fault Refusal :=
  .next <|
    (s.reach t).modChan ch fun c =>
      { c with
        lines := { c.lines with index := false }
        monitor := if c.monitor.running then c.monitor.trailingEdge c.active t else c.monitor }

/-- The channel receives an index timeout, together with STABLE lost if STABLE was yes (R97). -/
def State.timeoutToChannel (s : State) (ch : ChannelNo) (wasStable : Bool) : State :=
  if (s.chan ch).state.isCopy then s.endCopy ch (.failed .noIndex (some .reject))
  else if (s.chan ch).state = .ready ∧ wasStable then s.modChan ch fun c => c.readyLost ch s.now
  else s

/-- INDEX_TIMEOUT (R97): the index timer of a running monitor expires. -/
def execIndexTimeout (ch : ChannelNo) (s : State) : Host.Outcome State Fault Refusal :=
  .next <|
    let m := (s.chan ch).monitor
    if m.running then
      let s' := s.reachTimer m.indexTimer
      (s'.modChan ch fun c => { c with monitor := c.monitor.timedOut s'.now c.active.periodMax }).timeoutToChannel ch m.stable
    else s

end Sys2Proof.Machine
end

