-- ==== Sys2Proof/Machine/Link.lean ====
section
/-!
DEFINITION. The Link Port (chapter 9): LINK_BYTE_RECEIVED with the judging of frames, FRAME_GAP_TIMEOUT, and the sending
of reports with REPORT_TRANSMIT_START and REPORT_SENT.
-/

namespace Sys2Proof.Machine

/-- The gap timing restarts: sixteen byte-times at the strapped rate (R162, R164). -/
def State.gapDue (s : State) : Timer := some (s.now + 16 * s.link.byteNs)

/-- Changes the entry that is RECEIVING, if there is one. -/
def State.modReceiving (s : State) (f : Frame → Frame) : State :=
  s.modLink fun l => { l with frames := l.frames.map fun e => if e.state = .receiving then f e else e }

/-- The entry that is RECEIVING becomes FREE. -/
def State.dropReceiving (s : State) : State :=
  s.modLink fun l => { l with frames := l.frames.filter fun e => decide (e.state ≠ .receiving) }

/-- The receiver returns to HUNTING. -/
def State.hunt (s : State) : State := s.modLink fun l => { l with reception := none }

/-- A reception error adds one to the counter (R167). -/
def State.countError (s : State) : State := s.modLink fun l => { l with receptionErrors := countUp l.receptionErrors }

/-- A reception error ends a frame: its entry becomes FREE, the error is counted, and a FRAME-ERROR with the kind as
received is placed if an entry is free (R166, R167). A frame finished in silence leaves nothing (R172). -/
def State.endInError (s : State) (r : Reception) (reason : FrameErrorReason) : State :=
  match r.destination with
  | .silent => s.hunt
  | .entry => (s.dropReceiving.hunt.countError).place (.frameError reason r.kind)
  | .nothing => (s.hunt.countError).place (.frameError reason r.kind)

/-- A start code begins a frame: it takes a FREE entry, or is received into nothing (R163, R168, R169). -/
def State.beginFrame (s : State) : State :=
  let free := s.link.frames.length < Config.frameEntries
  s.modLink fun l =>
    { l with
      frames := if free then l.frames ++ [⟨.receiving, 0, []⟩] else l.frames
      reception := some
        { destination := if free then .entry else .nothing
          count := 0, kind := none, length := 0, checkHigh := 0, byteError := false, gapTimer := s.gapDue } }

/-- The body of the entry that is RECEIVING. -/
def State.receivingBody (s : State) : List Byte :=
  ((s.link.frames.find? fun e => e.state == .receiving).map (·.body)).getD []

/-- Why a frame with an entry is discarded at the end of its reception, if it is (cases 2 to 4 of R165). -/
def State.frameFault (s : State) (r : Reception) (check : Check) : Option FrameErrorReason :=
  if r.byteError then some .byte
  else if frameCheck (r.kind.getD 0) r.length s.receivingBody ≠ check then some .check
  else if r.kind.getD 0 ∉ inboundKinds then some .unknownKind
  else none

/-- A frame whose reception is complete is judged (R165). -/
def State.judgeFrame (s : State) (r : Reception) (check : Check) : State :=
  match r.destination with
  | .silent => s.hunt
  | .nothing => s.endInError r .overrun
  | .entry =>
    match s.frameFault r check with
    | some reason => s.endInError r reason
    | none => (s.modReceiving fun e => { e with state := .ready }).hunt

/-- The reception goes on. -/
def State.receiving (s : State) (r : Reception) : State := s.modLink fun l => { l with reception := some r }

/-- A byte of a frame, by its position after the start code (R164). -/
def State.frameByte (s : State) (r : Reception) (b : Byte) (bad : Bool) : State :=
  let r' := { r with count := r.count + 1, byteError := r.byteError || bad, gapTimer := s.gapDue }
  if r.count = 0 then
    let kinded := { r' with kind := some b }
    if r.destination = .entry then (s.modReceiving fun e => { e with kind := b }).receiving kinded
    else s.receiving kinded
  else if r.count = 1 then s.receiving { r' with length := b.toNat * 256 }
  else if r.count = 2 then
    let sized := { r' with length := r.length + b.toNat }
    if Config.maxBody < sized.length then s.endInError sized .overlength else s.receiving sized
  else if r.count < 3 + r.length then
    if r.destination = .entry then (s.modReceiving fun e => { e with body := e.body ++ [b] }).receiving r'
    else s.receiving r'
  else if r.count = 3 + r.length then s.receiving { r' with checkHigh := b }
  else s.judgeFrame r' (r.checkHigh ++ b)

/-- A byte arriving on LINK IN (R163, R164). -/
def State.linkByte (s : State) (b : Byte) (bad : Bool) : State :=
  match s.link.reception with
  | none => if b = Config.startCode ∧ bad = false then s.beginFrame else s.countError
  | some r => s.frameByte r b bad

/-- LINK_BYTE_RECEIVED (R163). -/
def execLinkByteReceived (data : Byte) (parity stop : Bool) (s : State) : Host.Outcome State Fault Refusal :=
  .next (s.linkByte data (byteError data parity stop))

/-- FRAME_GAP_TIMEOUT (R166): the frame in reception is TRUNCATED. -/
def execFrameGapTimeout (s : State) : Host.Outcome State Fault Refusal :=
  .next <|
    match s.link.reception with
    | none => s
    | some r => (s.reachTimer r.gapTimer).endInError r .truncated

/-- REPORT_TRANSMIT_START (R173): the report at the head of the queue begins, if RETURN HOLD is clear. -/
def execReportTransmitStart (returnHold : Bool) (s : State) : Host.Outcome State Fault Refusal :=
  .next <|
    let s' := s.modLink fun l => { l with returnHold := returnHold }
    match s.link.transmit, s.reports with
    | .idle, r :: _ =>
      if returnHold then s' else s'.modLink fun l => { l with transmit := .sending, linkOut := r.frame }
    | _, _ => s'

/-- REPORT_SENT (R173, R175): the report leaves the queue and its entry becomes free. -/
def execReportSent (s : State) : Host.Outcome State Fault Refusal :=
  .next <|
    match s.link.transmit with
    | .idle => s
    | .sending =>
      { s with reports := s.reports.tail, link := { s.link with transmit := .idle, linkOut := [] } }

end Sys2Proof.Machine
end

