-- ==== Sys2Proof/Machine/Passes.lean ====
section
/-!
DEFINITION. The job and the passes (chapter 3): JOB_SET, PASS_BEGIN with enrollment, PASS_ABORT, STARVATION_TIMEOUT and
PASS_CLOSED_PLACED.
-/

namespace Sys2Proof.Machine

/-! ### JOB_SET (R42, R43) -/

/-- A JOB-SET replaces the job whole, the job passed count becomes 0 and the copy-number counter 1 (R43). -/
def State.setJob (s : State) (j : Job) : State :=
  s.modControl fun p => { p with job := some j, jobPassed := 0, copyNumber := 1 }

/-- A JOB-SET as it is taken (R42, R43). -/
def State.jobSet (s : State) (body : List Byte) : State :=
  if s.passBusy then s.place (.commandRefused kindJobSet .passBusy 0)
  else
    match readJob s.tables body with
    | .error r => s.place (.commandRefused kindJobSet r 0)
    | .ok j => s.setJob j

/-- JOB_SET (R42). -/
def execJobSet (s : State) : Host.Outcome State Fault Refusal :=
  .next <| s.takeFrame kindJobSet (fun _ => true) fun body st => st.jobSet body

/-! ### PASS_BEGIN (R46 to R49) -/

/-- The job needs serials: the patch table holds an IN-USE entry of source SERIAL (R41). -/
def Tables.needSerials (t : Tables) : Bool :=
  t.patches.toList.any fun e => match e with
    | some p => p.source == .serial
    | none => false

/-- A patch entry fits the layout (R145). -/
def Patch.fits (p : Patch) (l : Layout) : Bool :=
  decide (p.track < l.tracks) && (l.sectors.map (·.id)).contains p.sector && decide (p.offset + p.length ≤ l.size)

/-- The lowest-numbered IN-USE entry that does not fit (R46, R145). -/
def Tables.outside (t : Tables) (l : Layout) : Option Nat :=
  t.patches.toList.findIdx? fun e => match e with
    | some p => !p.fits l
    | none => false

/-- The checks R5 makes on the job's layout. -/
def State.layoutFits (s : State) (j : Job) : Bool :=
  match s.tables.layouts[j.layoutIndex] with
  | none => false
  | some l => decide (j.stepFactor = 2 → l.cylinders ≤ 42)

/-- Why a PASS-BEGIN is refused, with its detail (the table of R46), in order. -/
def State.passBeginRefusal (s : State) (tag : Byte) : Option (RefusalReason × Nat) :=
  if tag = 0 then some (.tagZero, 0)
  else if s.passBusy then some (.passBusy, 0)
  else
    match s.control.job with
    | none => some (.noJob, 0)
    | some j =>
      if !s.layoutFits j then some (.layoutInvalid, 0)
      else if j.quota ≠ 0 ∧ s.control.jobPassed = j.quota then some (.quotaMet, 0)
      else (s.tables.outside s.layout).map fun i => (.patchOutsideLayout, i)

/-- The reach of a drive type: its highest physical cylinder (R6, R47). -/
def DriveType.reach : DriveType → Nat
  | .track80 => 83
  | .track40 => 41

/-- The conditions that leave a READY channel unenrolled, in order (R47). -/
def State.notEnrolled (s : State) (c : Channel) : Option NotEnrolledReason :=
  if s.job.quota ≠ 0 ∧ s.job.quota ≤ s.control.jobPassed + s.inFlight then some .quota
  else if c.active.driveType.reach < (s.layout.cylinders - 1) * s.job.stepFactor then some .driveType
  else if s.tables.needSerials ∧ s.pool = [] then some .poolEmpty
  else none

/-- The copy-number counter after an enrollment: 65,535 is followed by 1 (R45). -/
def nextCopyNumber (n : Nat) : Nat := if Config.counterMax ≤ n then 1 else n + 1

/-- The serial record an enrollment takes (R48 step 2). -/
def State.serialTaken (s : State) : Option Serial := if s.tables.needSerials then s.pool.head? else none

/-- The copy record of an enrollment (R48, R61). -/
def CopyRecord.enrolled (tag : Byte) (number : Nat) (serial : Option Serial) : CopyRecord :=
  { passTag := tag
    copyNumber := number
    serial := serial
    disposition := none
    retriesUsed := 0
    leastGap := none
    outcome := .undecided
    reason := none
    failingTrack := none
    verifyDetail := none
    sort := none }

/-- The channel as it is given its copy (R48 step 4, R61, R70). -/
def Channel.enroll (c : Channel) (copy : CopyRecord) (density : Density) (head now : Nat) : Channel :=
  ({ c with copy := some copy, cursor := some 0, attempts := 0 } : Channel).enterRecalibrating density head now

/-- Enrollment, steps 1 to 4 of R48. -/
def State.enroll (s : State) (ch : ChannelNo) : State :=
  let copy := CopyRecord.enrolled s.control.pass.tag s.control.copyNumber s.serialTaken
  { s with
    pool := if s.tables.needSerials then s.pool.tail else s.pool
    control :=
      { s.control with
        copyNumber := nextCopyNumber s.control.copyNumber
        pass :=
          { s.control.pass with
            live := setAdd s.control.pass.live ch, enrolled := setAdd s.control.pass.enrolled ch } }
    channels :=
      s.channels.set ch
        ((s.chan ch).enroll copy s.layout.density (s.layout.headOf 0) s.now) }

/-- The removal takes the pool count from above the low mark to the mark or below it: the count just after it (R134). -/
def State.lowCrossing (s : State) : Option Nat :=
  if s.tables.needSerials ∧ s.job.poolLowMark < s.pool.length ∧ s.pool.length - 1 ≤ s.job.poolLowMark then
    some (s.pool.length - 1)
  else none

/-- A PASS-BEGIN as it deals with the channels: the state so far, the two lists of PASS-OPENED, and the POOL-LOW formed
(R47, R49, R134). -/
structure Dealing where
  state       : State
  enrolled    : List EnrolledEntry
  notEnrolled : List NotEnrolledEntry
  low         : Option Nat

/-- One channel is dealt with by its state (R47). -/
def dealWith (d : Dealing) (ch : ChannelNo) : Dealing :=
  let s := d.state
  match (s.chan ch).state with
  | .stopped =>
    { d with
      state := s.modChan ch fun c => c.enterSpinup ch s.now
      notEnrolled := d.notEnrolled ++ [⟨ch, .motorStopped⟩] }
  | .ready =>
    match s.notEnrolled (s.chan ch) with
    | some r => { d with notEnrolled := d.notEnrolled ++ [⟨ch, r⟩] }
    | none =>
      { d with
        state := s.enroll ch
        enrolled := d.enrolled ++ [⟨ch, s.control.copyNumber, s.serialTaken⟩]
        low := d.low <|> s.lowCrossing }
  | .offline | .empty | .spinup | .recalibrating | .seeking | .waitingTrack | .waitingIndex => d
  | .writing | .verifying | .reporting | .rejecting | .sorting | .unload | .jammed => d

/-- The pass opens: both counts 0, the sets empty, the fill cursor 0 (R36, R47); the channels' TRACK ZERO lines show what
the command saw. -/
def State.openPass (s : State) (tag : Byte) (trackZero : ChannelSet) : State :=
  let s' := s.mapChans fun ch c => c.modLines fun l => { l with trackZero := setHas trackZero ch }
  { s' with
    control :=
      { s.control with
        pass :=
          { state := .opened, tag := tag, live := 0, enrolled := 0, passed := 0, failed := 0
            closeReason := none, closure := none } }
    store := { s.store with fillCursor := 0 } }

/-- With no channel enrolled the pass closes again, with the new tag kept and no closure report (R49). -/
def State.closeIfEmpty (s : State) : State :=
  if s.control.pass.live = 0 then s.modPass fun p => { p with state := .idle } else s

/-- A PASS-BEGIN that passes R46: the channels in ascending number, PASS-OPENED, then POOL-LOW if an entry is free (R47,
R49, R134). -/
def State.beginPass (s : State) (tag : Byte) (trackZero : ChannelSet) : State :=
  let d := channelsUp.foldl dealWith ⟨s.openPass tag trackZero, [], [], none⟩
  let opened := d.state.place (.passOpened tag d.enrolled d.notEnrolled)
  let told := match d.low with
    | some n => opened.place (.poolLow n)
    | none => opened
  told.closeIfEmpty

/-- A PASS-BEGIN as it is taken (R46, R47). -/
def State.passBegin (s : State) (trackZero : ChannelSet) (body : List Byte) : State :=
  match s.passBeginRefusal (byteAt body 0) with
  | some (r, detail) => s.place (.commandRefused kindPassBegin r detail)
  | none => s.beginPass (byteAt body 0) trackZero

/-- PASS_BEGIN (R47). -/
def execPassBegin (trackZero : ChannelSet) (s : State) : Host.Outcome State Fault Refusal :=
  .next <| s.takeFrame kindPassBegin (fun _ => true) fun body st => st.passBegin trackZero body

/-! ### Aborts (R54, R57) -/

/-- A PASS-ABORT as it is taken (R54). -/
def State.passAbort (s : State) (body : List Byte) : State :=
  if !s.passOpen then s.place (.commandRefused kindPassAbort .noPass 0)
  else if byteAt body 0 ≠ s.control.pass.tag then s.place (.commandRefused kindPassAbort .tagMismatch 0)
  else s.abortPass .passAborted .aborted

/-- PASS_ABORT (R54). -/
def execPassAbort (s : State) : Host.Outcome State Fault Refusal :=
  .next <| s.takeFrame kindPassAbort (fun _ => true) fun body st => st.passAbort body

/-- STARVATION_TIMEOUT (R57): the running starvation timer expires and the pass is aborted. -/
def execStarvationTimeout (s : State) : Host.Outcome State Fault Refusal :=
  .next <|
    match s.control.starvation with
    | none => s
    | some t => (s.reach t).abortPass .passStarved .starved

/-! ### PASS_CLOSED_PLACED (R53) -/

/-- The held closure report is placed once the enrolled set is empty and an entry is free (R53). -/
def execPassClosedPlaced (s : State) : Host.Outcome State Fault Refusal :=
  .next <|
    match s.control.pass.closure with
    | none => s
    | some c =>
      if s.control.pass.enrolled = 0 ∧ 0 < s.freeEntries then
        (s.place (.passClosed c)).modPass fun p => { p with closure := none }
      else s

end Sys2Proof.Machine
end

