-- ==== Sys2Proof/Machine/Resets.lean ====
section
/-!
DEFINITION. PART_RESET (R172, R38, R59, R89, R132) and POWER_ON_RESET (R174).
-/

namespace Sys2Proof.Machine

/-- A head frame that cannot yet be taken: too few report entries are free, or it waits for a slot (R171). -/
def State.headWaits (s : State) (f : Frame) : Bool := decide (s.freeEntries < f.entriesNeeded) || s.segmentWaits f

/-- A READY PART-RESET is taken when it is the head, and also behind a head frame that waits (R172). -/
def State.partResetTaken (s : State) : Bool :=
  match s.link.frames.filter Frame.isReady with
  | [] => false
  | head :: rest =>
    head.kind == kindPartReset || (s.headWaits head && (rest.head?.map fun f => f.kind == kindPartReset).getD false)

/-- The serial records bound at the moment, of the channels in ascending number (R132). -/
def State.boundSerials (s : State) : List Serial := s.channels.toList.filterMap Channel.bound

/-- The Report Queue after a part reset: a report being sent stays (R172, R175). -/
def State.queueKept (s : State) : List Report :=
  match s.link.transmit with
  | .idle => []
  | .sending => s.reports.take 1

/-- The Link Port at a part reset: both entries FREE, a frame in reception finished in silence, the counters 0 (R172). -/
def LinkPort.partReset (l : LinkPort) : LinkPort :=
  { l with
    frames := []
    reception := l.reception.map fun r => { r with destination := .silent }
    receptionErrors := 0
    staleSegments := 0 }

/-- A part reset of every block, and RESET-DONE with the copies abandoned and the serials returned (R172). The returned
serials stand at the head of the pool, channel 0's first (R132). -/
def State.partReset (s : State) : State :=
  let cleared : State :=
    { s with
      link := s.link.partReset
      reports := s.queueKept
      control := PassControl.initial
      store := s.store.cleared
      pool := s.boundSerials ++ s.pool }
  (cleared.mapChans fun ch c => c.partReset ch s.now).place
    (.resetDone (setCard s.control.pass.enrolled) s.boundSerials.length)

/-- PART_RESET (R172). -/
def execPartReset (s : State) : Host.Outcome State Fault Refusal :=
  .next (if s.partResetTaken then s.partReset else s)

/-- POWER_ON_RESET (R174, R39, R59, R89, R132, R160): every block at its power-on value, the straps sampled. The bytes of
the data areas stay (R19); the levels of the input lines, the clock and the commands that wait are not the part's. -/
def execPowerOnReset (strapA strapB : Bool) (s : State) : Host.Outcome State Fault Refusal :=
  .next
    { State.reset with
      pending := s.pending
      now := s.now
      link :=
        { LinkPort.initial with strapA := strapA, strapB := strapB, returnHold := s.link.returnHold }
      store := s.store.cleared
      channels := Vector.ofFn fun i => s.channels[i].powerOn }

end Sys2Proof.Machine
end

