-- ==== Sys2Proof/Machine/Status.lean ====
section
/-!
DEFINITION. STATUS_QUERY (R177 to R179): the reports it forms, and what forming them clears.
-/

namespace Sys2Proof.Machine

/-- What a PART-STATUS carries of a slot (R40). -/
def Slot.status (sl : Slot) : SlotStatus := ⟨sl.state, sl.track, setCard sl.present, sl.claims⟩

/-- A PART-STATUS formed now (R178). -/
def State.partStatus (s : State) : PartStatus :=
  { passState := s.control.pass.state
    tag := s.control.pass.tag
    closureHeld := s.control.pass.closure.isSome
    jobPresent := s.control.job.isSome
    jobPassed := s.control.jobPassed
    nextCopy := s.control.copyNumber
    inFlight := s.inFlight
    enrolled := s.control.pass.enrolled
    quota := (s.control.job.map (·.quota)).getD 0
    poolCount := s.pool.length
    boundCount := s.boundCount
    slots := s.store.slots.toList.map Slot.status
    fillCursor := s.store.fillCursor
    receptionErrors := s.link.receptionErrors
    staleSegments := s.link.staleSegments }

/-- A CHANNEL-STATUS formed now (R101, R179). -/
def Channel.status (c : Channel) (ch : ChannelNo) : ChannelStatus :=
  { channel := ch
    state := c.state
    cylinder := c.cylinder
    cursor := c.cursor
    activePrecomp := c.activePrecomp
    settings := c.active
    pendingHeld := c.pendingRecord.isSome
    stable := c.monitor.stable
    planning := c.monitor.planning
    history := c.monitor.history
    lastWidth := c.monitor.lastWidth
    periodShort := c.monitor.periodShort
    periodLong := c.monitor.periodLong
    pulseShort := c.monitor.pulseShort
    pulseLong := c.monitor.pulseLong }

/-- PART-STATUS is placed and its two counters become 0 (R177, R178). -/
def State.reportPart (s : State) : State :=
  (s.place (.partStatus s.partStatus)).modLink fun l => { l with receptionErrors := 0, staleSegments := 0 }

/-- CHANNEL-STATUS is placed and the channel's four flags become clear (R101, R177, R179). -/
def State.reportChannel (s : State) (ch : ChannelNo) : State :=
  (s.place (.channelStatus ((s.chan ch).status ch))).modChan ch fun c => { c with monitor := c.monitor.flagsCleared }

/-- A STATUS-QUERY as it is taken (R170, R177). -/
def State.statusQuery (s : State) (body : List Byte) : State :=
  if byteAt body 0 = 0 ∧ byteAt body 1 = 0 then s.place (.commandRefused kindStatusQuery .value 0)
  else
    let s' := if byteAt body 0 = 0 then s else s.reportPart
    (channelsUp.filter fun ch : ChannelNo => setHas (byteAt body 1) ch.val).foldl State.reportChannel s'

/-- STATUS_QUERY (R177). -/
def execStatusQuery (s : State) : Host.Outcome State Fault Refusal :=
  .next <| s.takeFrame kindStatusQuery (fun _ => true) fun body st => st.statusQuery body

end Sys2Proof.Machine
end

