-- ==== Sys2Proof/Machine/TableLoads.lean ====
section
/-!
DEFINITION. The TABLE-LOAD commands (chapter 8): the run of records with its stop at the first that fails (R147 to
R149), and the step of each table.
-/

namespace Sys2Proof.Machine

abbrev tableLayout : Byte := 0x01
abbrev tablePatch : Byte := 0x02
abbrev tablePool : Byte := 0x03
abbrev tablePrecomp : Byte := 0x04
abbrev tableChannel : Byte := 0x05
abbrev modeWrite : Byte := 0x01
abbrev modeAppend : Byte := 0x02
abbrev modeClear : Byte := 0x03

/-- What one record of a load comes to: the load stops at it, or it is applied and the rest of the body follows. -/
inductive RecordResult where
  | stop (reason : TableErrorReason)
  | applied (s : State) (rest : List Byte)

/-- The records of a load, one after another (R147): the state as the applied records leave it, and where and why the
load stopped, if it did. `step` judges the record at position j. -/
def runRecords (step : Nat → List Byte → State → RecordResult) :
    Nat → Nat → List Byte → State → State × Option (Nat × TableErrorReason)
  | 0, _, _, s => (s, none)
  | k + 1, j, bs, s =>
    match step j bs s with
    | .stop r => (s, some (j, r))
    | .applied s' rest => runRecords step k (j + 1) rest s'

/-- A load with its records: a stopped load places one TABLE-ERROR, whose index for an indexed table is the start index
plus the position (R149). -/
def State.loadRecords (s : State) (base : Nat) (step : Nat → List Byte → State → RecordResult) (body : List Byte) :
    State :=
  match runRecords step (num1 body 3) 0 (body.drop 4) s with
  | (s', none) => s'
  | (s', some (j, r)) => s'.place (.tableError (byteAt body 0) (base + j) r j)

/-- A load that is stopped before any record (R146, R149): the index is the start index, or 0 for a POOL load. -/
def State.loadStopped (s : State) (body : List Byte) (r : TableErrorReason) : State :=
  s.place (.tableError (byteAt body 0) (if byteAt body 0 = tablePool then 0 else num1 body 2) r 0)

/-- The load names this table and this mode. -/
def loadIs (table mode : Byte) (body : List Byte) : Bool := byteAt body 0 == table && byteAt body 1 == mode

/-- The mode is one the table takes (section 8.1). -/
def modeTaken (table mode : Byte) : Bool :=
  (table == tableLayout && mode == modeWrite) || (table == tablePatch && (mode == modeWrite || mode == modeClear))
    || (table == tablePool && (mode == modeAppend || mode == modeClear)) || (table == tablePrecomp && mode == modeWrite)
    || (table == tableChannel && mode == modeWrite)

/-- The table field names a table. -/
def tableNamed (table : Byte) : Bool :=
  table == tableLayout || table == tablePatch || table == tablePool || table == tablePrecomp || table == tableChannel

/-! ### The steps of the tables -/

/-- Replaces the Table Store. -/
def State.withTables (s : State) (t : Tables) : State := { s with tables := t }

/-- A LAYOUT record (R147, R148, R152). -/
def layoutStep (start j : Nat) (bs : List Byte) (s : State) : RecordResult :=
  if h : start + j < 8 then
    if s.passOpen ∧ s.job.layoutIndex.val = start + j then .stop .inUse
    else if bs.length < 5 ∨ bs.length < 17 + 2 * num1 bs 4 then .stop .truncatedRecord
    else
      match readLayoutRecord (bs.take (17 + 2 * num1 bs 4)) with
      | none => .stop .value
      | some entry =>
        .applied (s.withTables { s.tables with layouts := s.tables.layouts.set (start + j) entry })
          (bs.drop (17 + 2 * num1 bs 4))
  else .stop .index

/-- A PATCH record (R147, R148, R153). -/
def patchStep (start j : Nat) (bs : List Byte) (s : State) : RecordResult :=
  if h : start + j < 32 then
    if bs.length < 26 then .stop .truncatedRecord
    else
      match readPatchRecord (bs.take 26) with
      | none => .stop .value
      | some entry =>
        .applied (s.withTables { s.tables with patches := s.tables.patches.set (start + j) entry }) (bs.drop 26)
  else .stop .index

/-- A POOL record, in the order of R155. -/
def poolStep (_j : Nat) (bs : List Byte) (s : State) : RecordResult :=
  match bs with
  | [] => .stop .truncatedRecord
  | len :: rest =>
    if len.toNat = 0 ∨ 16 < len.toNat then .stop .value
    else if rest.length < len.toNat then .stop .truncatedRecord
    else if Config.poolSize ≤ s.pool.length + s.boundCount then .stop .poolFull
    else .applied { s with pool := s.pool ++ [rest.take len.toNat] } (rest.drop len.toNat)

/-- A PRECOMP record (R156): index 0 is density D, index 1 density H. -/
def precompStep (start j : Nat) (bs : List Byte) (s : State) : RecordResult :=
  if start + j < 2 then
    if bs.length < 3 then .stop .truncatedRecord
    else
      match readPrecomp (bs.take 3) with
      | none => .stop .value
      | some p =>
        .applied
          (s.withTables (if start + j = 0 then { s.tables with precompD := p } else { s.tables with precompH := p }))
          (bs.drop 3)
  else .stop .index

/-- A CHANNEL record (R157, R158), placed as R63 states. -/
def channelStep (start j : Nat) (bs : List Byte) (s : State) : RecordResult :=
  if h : start + j < 8 then
    if bs.length < 22 then .stop .truncatedRecord
    else
      match readSettings (bs.take 22) with
      | none => .stop .value
      | some r =>
        .applied (s.modChan ⟨start + j, h⟩ fun c => c.placeSettings ⟨start + j, h⟩ r s.now) (bs.drop 22)
  else .stop .index

/-! ### The loads -/

/-- LAYOUT_WRITE (R152). -/
def execLayoutWrite (s : State) : Host.Outcome State Fault Refusal :=
  .next <| s.takeFrame kindTableLoad (loadIs tableLayout modeWrite) fun body st =>
    st.loadRecords (num1 body 2) (layoutStep (num1 body 2)) body

/-- PATCH_WRITE (R153): refused IN-USE while a pass is open (R146, R150). -/
def execPatchWrite (s : State) : Host.Outcome State Fault Refusal :=
  .next <| s.takeFrame kindTableLoad (loadIs tablePatch modeWrite) fun body st =>
    if st.passOpen then st.loadStopped body .inUse
    else st.loadRecords (num1 body 2) (patchStep (num1 body 2)) body

/-- PATCH_CLEAR (R154): every entry becomes UNUSED; refused IN-USE while a pass is open (R146, R150). -/
def execPatchClear (s : State) : Host.Outcome State Fault Refusal :=
  .next <| s.takeFrame kindTableLoad (loadIs tablePatch modeClear) fun body st =>
    if st.passOpen then st.loadStopped body .inUse
    else st.withTables { st.tables with patches := Vector.replicate 32 none }

/-- POOL_APPEND (R127, R155). -/
def execPoolAppend (s : State) : Host.Outcome State Fault Refusal :=
  .next <| s.takeFrame kindTableLoad (loadIs tablePool modeAppend) fun body st => st.loadRecords 0 poolStep body

/-- POOL_CLEAR (R128): the queue is emptied, the bound records are not touched. -/
def execPoolClear (s : State) : Host.Outcome State Fault Refusal :=
  .next <| s.takeFrame kindTableLoad (loadIs tablePool modeClear) fun _ st => { st with pool := [] }

/-- PRECOMP_WRITE (R156): only held values change. -/
def execPrecompWrite (s : State) : Host.Outcome State Fault Refusal :=
  .next <| s.takeFrame kindTableLoad (loadIs tablePrecomp modeWrite) fun body st =>
    st.loadRecords (num1 body 2) (precompStep (num1 body 2)) body

/-- CHANNEL_WRITE (R157, R158). -/
def execChannelWrite (s : State) : Host.Outcome State Fault Refusal :=
  .next <| s.takeFrame kindTableLoad (loadIs tableChannel modeWrite) fun body st =>
    st.loadRecords (num1 body 2) (channelStep (num1 body 2)) body

/-- TABLE_LOAD_REFUSED (R146): no such table is VALUE, a mode the table does not take is MODE. -/
def execTableLoadRefused (s : State) : Host.Outcome State Fault Refusal :=
  .next <| s.takeFrame kindTableLoad (fun body => !modeTaken (byteAt body 0) (byteAt body 1)) fun body st =>
    st.loadStopped body (if tableNamed (byteAt body 0) then .mode else .value)

end Sys2Proof.Machine
end

