-- ==== Sys2Proof/Machine/Dispatch.lean ====
section
/-!
DEFINITION. The meaning of each command: one arm per row of spec/opcode_table.json, in the table's order.
-/

namespace Sys2Proof.Machine

def exec (i : Instr) (s : State) : Host.Outcome State Fault Refusal :=
  match i with
  | .trackSegment => Sys2Proof.Machine.execTrackSegment s
  | .layoutWrite => Sys2Proof.Machine.execLayoutWrite s
  | .patchWrite => Sys2Proof.Machine.execPatchWrite s
  | .patchClear => Sys2Proof.Machine.execPatchClear s
  | .poolAppend => Sys2Proof.Machine.execPoolAppend s
  | .poolClear => Sys2Proof.Machine.execPoolClear s
  | .precompWrite => Sys2Proof.Machine.execPrecompWrite s
  | .channelWrite => Sys2Proof.Machine.execChannelWrite s
  | .tableLoadRefused => Sys2Proof.Machine.execTableLoadRefused s
  | .jobSet => Sys2Proof.Machine.execJobSet s
  | .passBegin trackZero => Sys2Proof.Machine.execPassBegin trackZero s
  | .passAbort => Sys2Proof.Machine.execPassAbort s
  | .channelEnable => Sys2Proof.Machine.execChannelEnable s
  | .channelDisable => Sys2Proof.Machine.execChannelDisable s
  | .channelReset => Sys2Proof.Machine.execChannelReset s
  | .channelControlRefused => Sys2Proof.Machine.execChannelControlRefused s
  | .statusQuery => Sys2Proof.Machine.execStatusQuery s
  | .partReset => Sys2Proof.Machine.execPartReset s
  | .powerOnReset strapA strapB => Sys2Proof.Machine.execPowerOnReset strapA strapB s
  | .linkByteReceived data parity stop => Sys2Proof.Machine.execLinkByteReceived data parity stop s
  | .frameGapTimeout => Sys2Proof.Machine.execFrameGapTimeout s
  | .reportTransmitStart returnHold => Sys2Proof.Machine.execReportTransmitStart returnHold s
  | .reportSent => Sys2Proof.Machine.execReportSent s
  | .heldReportPlaced ch writeProtect => Sys2Proof.Machine.execHeldReportPlaced ch writeProtect s
  | .passClosedPlaced => Sys2Proof.Machine.execPassClosedPlaced s
  | .mediaPresent ch => Sys2Proof.Machine.execMediaPresent ch s
  | .mediaAbsent ch => Sys2Proof.Machine.execMediaAbsent ch s
  | .indexLeadingEdge ch t writeProtect => Sys2Proof.Machine.execIndexLeadingEdge ch t writeProtect s
  | .indexTrailingEdge ch t => Sys2Proof.Machine.execIndexTrailingEdge ch t s
  | .indexTimeout ch => Sys2Proof.Machine.execIndexTimeout ch s
  | .writeStart ch writeProtect => Sys2Proof.Machine.execWriteStart ch writeProtect s
  | .lastCheckWritten ch => Sys2Proof.Machine.execLastCheckWritten ch s
  | .writeProtectAsserted ch => Sys2Proof.Machine.execWriteProtectAsserted ch s
  | .verifyDelayEnd ch => Sys2Proof.Machine.execVerifyDelayEnd ch s
  | .headerMarkRead ch cylinder head sector size check => Sys2Proof.Machine.execHeaderMarkRead ch cylinder head sector size check s
  | .dataFieldRead ch code bytes => Sys2Proof.Machine.execDataFieldRead ch code bytes s
  | .recalStepInterval ch trackZero => Sys2Proof.Machine.execRecalStepInterval ch trackZero s
  | .seekStepInterval ch => Sys2Proof.Machine.execSeekStepInterval ch s
  | .settleEnd ch => Sys2Proof.Machine.execSettleEnd ch s
  | .spinUpTimeout ch => Sys2Proof.Machine.execSpinUpTimeout ch s
  | .idleTimeout ch => Sys2Proof.Machine.execIdleTimeout ch s
  | .recoveryTimeout ch => Sys2Proof.Machine.execRecoveryTimeout ch s
  | .sortDelayEnd ch => Sys2Proof.Machine.execSortDelayEnd ch s
  | .strobeEnd ch => Sys2Proof.Machine.execStrobeEnd ch s
  | .ejectTimeout ch => Sys2Proof.Machine.execEjectTimeout ch s
  | .starvationTimeout => Sys2Proof.Machine.execStarvationTimeout s

end Sys2Proof.Machine
end

