-- ==== Sys2Proof/Safety.lean ====
section
/-!
DEFINITION. The words in which claims about the DC-8 are made: what a command leaves alone, the frames and records
as the image server sends them, and the laws of the manual that hold in every state a run reaches, each as a
structure over one state.
-/

namespace Sys2Proof.Machine

/-! ### What a command leaves alone -/

/-- Every byte of every slot's data area reads as before (R19). -/
def SameData (s t : State) : Prop :=
  ∀ (i : Fin 8) (a : Nat), memRead t.store.slots[i].data a = memRead s.store.slots[i].data a

/-- Everything but the clock, the channels and the Link Port is as before. -/
structure SameBlocks (s t : State) : Prop where
  pending : t.pending = s.pending
  tables  : t.tables = s.tables
  pool    : t.pool = s.pool
  control : t.control = s.control
  store   : t.store = s.store
  data    : SameData s t
  reports : t.reports = s.reports

/-- Everything but the clock and one channel is as before. -/
structure OnlyChannel (s t : State) (ch : ChannelNo) : Prop where
  blocks : SameBlocks s t
  link   : t.link = s.link
  others : ∀ c : ChannelNo, c ≠ ch → t.chan c = s.chan c

/-- Everything but the Link Port and the Report Queue is as before. -/
structure OnlyLink (s t : State) : Prop where
  pending  : t.pending = s.pending
  now      : t.now = s.now
  tables   : t.tables = s.tables
  pool     : t.pool = s.pool
  control  : t.control = s.control
  store    : t.store = s.store
  data     : SameData s t
  channels : t.channels = s.channels

/-- The head frame has this kind and body, and `needed` report entries are free: it can be taken (R170). -/
abbrev State.headIs (s : State) (kind : Byte) (body : List Byte) (needed : Nat) : Prop :=
  s.headFrame = some ⟨.ready, kind, body⟩ ∧ needed ≤ s.freeEntries

/-! ### The frames and records that the image server sends (R185, R186) -/

/-- The body of a TABLE-LOAD (R185). -/
def tableLoadBody (table mode : Byte) (start count : Nat) (records : List Byte) : List Byte :=
  [table, mode] ++ byte1 start ++ byte1 count ++ records

def Density.code : Density → Nat
  | .d => 0x00 | .h => 0x01

def VerifyLevel.code : VerifyLevel → Nat
  | .off => 0x00 | .check => 0x01 | .compare => 0x02

def MarkKind.code : MarkKind → Nat
  | .normal => 0x00 | .deleted => 0x01

/-- The layout record of an entry in use (R186). -/
def Layout.encode (l : Layout) : List Byte :=
  byte1 0x00 ++ byte1 l.density.code ++ byte1 (l.heads * 16 + l.sizeCode) ++ byte1 l.cylinders ++ byte1 l.n
    ++ byte1 l.skew ++ byte2 l.leadIn ++ byte1 l.syncRun ++ byte1 l.gapA ++ byte1 l.gapB ++ byte1 l.gapBMin
    ++ byte2 l.tailMin ++ byte1 l.spliceGuard ++ [l.fill] ++ byte1 l.verify.code
    ++ l.sectors.flatMap fun e => [e.id] ++ byte1 e.kind.code

def NumberForm.code : NumberForm → Nat
  | .binaryHighFirst => 0x01 | .binaryLowFirst => 0x02 | .decimalText => 0x03

/-- Source and form of a patch (R186). -/
def PatchSource.encode : PatchSource → List Byte
  | .serial => byte1 0x00 ++ byte1 0x00
  | .copyNumber f => byte1 0x01 ++ byte1 f.code
  | .channelNumber f => byte1 0x02 ++ byte1 f.code
  | .constant => byte1 0x03 ++ byte1 0x00

def PatchFunction.code : PatchFunction → Nat
  | .replace => 0x00 | .and => 0x01 | .or => 0x02 | .xor => 0x03

/-- The patch record of an entry in use (R186). -/
def Patch.encode (p : Patch) : List Byte :=
  byte1 0x01 ++ byte1 p.track ++ [p.sector] ++ byte2 p.offset ++ byte1 p.length ++ p.source.encode
    ++ byte1 p.function.code ++ [p.mask] ++ p.constant

/-- The pool record of a serial (R186). -/
def Serial.record (v : Serial) : List Byte := byte1 v.length ++ v

/-- The precompensation record (R186). -/
def Precomp.encode (p : Precomp) : List Byte := byte1 p.boundary ++ byte1 p.outer ++ byte1 p.inner

def ImageSource.code : ImageSource → Nat
  | .stream => 0x00 | .fill => 0x01

def SerialPolicy.code : SerialPolicy → Nat
  | .reissue => 0x00 | .void => 0x01

/-- The body of a JOB-SET, its reserved pair 0 (R185). -/
def Job.encode (j : Job) : List Byte :=
  byte1 j.layoutIndex.val ++ byte1 j.source.code ++ byte1 j.stepFactor ++ byte1 j.retryLimit
    ++ byte1 j.serialPolicy.code ++ byte2 j.quota ++ [j.pad] ++ byte2 j.writeDelay ++ byte1 j.starvationTimeout
    ++ byte1 j.poolLowMark ++ [0x00, 0x00]

/-- Every field fits the bytes its record gives it (R186). -/
def Layout.codable (l : Layout) : Bool :=
  decide (l.heads ≤ 15 ∧ l.sizeCode ≤ 15) && decide (l.cylinders ≤ 255 ∧ l.n ≤ 255 ∧ l.skew ≤ 255)
    && decide (l.leadIn ≤ 65535 ∧ l.tailMin ≤ 65535) && decide (l.syncRun ≤ 255 ∧ l.gapA ≤ 255)
    && decide (l.gapB ≤ 255 ∧ l.gapBMin ≤ 255 ∧ l.spliceGuard ≤ 255)

/-- Every field fits the bytes its record gives it, with all 16 constant bytes (R186). -/
def Patch.codable (p : Patch) : Bool :=
  decide (p.track ≤ 255 ∧ p.length ≤ 255) && decide (p.offset ≤ 65535) && p.constant.length == 16

/-- Every field fits the bytes its record gives it (R186). -/
def Settings.codable (r : Settings) : Bool :=
  decide (r.stepRate ≤ 255 ∧ r.settle ≤ 255 ∧ r.idleTimeout ≤ 255 ∧ r.sortDelay ≤ 255 ∧ r.ejectTimeout ≤ 255)
    && decide (r.manualPrecomp ≤ 255 ∧ r.sortWidth ≤ 65535 ∧ r.pulseMin ≤ 65535 ∧ r.pulseMax ≤ 65535)
    && decide (r.periodMin ≤ 16777215 ∧ r.periodMax ≤ 16777215)

/-- A patch entry as the table may hold it: R136's ranges and all 16 constant bytes. -/
def Patch.valid (p : Patch) : Bool := p.inRange && p.constant.length == 16

/-- The values a job record can hold (the table of R41). -/
def Job.valid (j : Job) : Bool :=
  (j.stepFactor == 1 || j.stepFactor == 2) && decide (j.retryLimit ≤ 7) && decide (j.quota ≤ 65535)
    && decide (j.writeDelay ≤ 2000) && decide (1 ≤ j.starvationTimeout ∧ j.starvationTimeout ≤ 255)
    && decide (j.poolLowMark ≤ 63)

/-- The values a channel settings record can hold (the table of R62, with R157). -/
def Settings.inRange (r : Settings) : Bool :=
  r.valid && decide (2 ≤ r.stepRate ∧ r.stepRate ≤ 16) && decide (r.settle ≤ 50)
    && decide (r.idleTimeout = 0 ∨ (10 ≤ r.idleTimeout ∧ r.idleTimeout ≤ 240)) && decide (r.sortDelay ≤ 255)
    && decide (10 ≤ r.sortWidth ∧ r.sortWidth ≤ 500) && decide (2 ≤ r.ejectTimeout ∧ r.ejectTimeout ≤ 60)
    && decide (r.pulseMax ≤ 65535)

/-! ### The loads that the image server sends (R147 to R149) -/

/-- A whole layout record and what it makes of its entry (R148, R152): UNUSED by its flag, whatever else it holds, or IN-USE
with a valid layout. -/
def Layout.Sent (record : List Byte) : Option Layout → Prop
  | none => record.head? = some 0x01 ∧ record.length = 17 + 2 * num1 record 4
  | some l => l.valid = true ∧ record = l.encode

/-- A whole patch record and what it makes of its entry (R153). -/
def Patch.Sent (record : List Byte) : Option Patch → Prop
  | none => record.head? = some 0x00 ∧ record.length = 26
  | some p => p.valid = true ∧ record = p.encode

/-- A whole precompensation record with values that R156 allows. -/
def Precomp.Sent (record : List Byte) (p : Precomp) : Prop :=
  p.boundary ≤ 255 ∧ p.outer ≤ 15 ∧ p.inner ≤ 15 ∧ record = p.encode

/-- A whole channel settings record with values that R157 allows, and the record that is placed for it, its timing fields
clamped (R158). -/
def Settings.Sent (record : List Byte) (placed : Settings) : Prop :=
  ∃ r : Settings, r.codable = true ∧ r.valid = true ∧ record = r.encode ∧
    placed =
      { r with
        stepRate := max 2 (min 16 r.stepRate)
        settle := min 50 r.settle
        idleTimeout := if r.idleTimeout = 0 then 0 else max 10 (min 240 r.idleTimeout)
        sortWidth := max 10 (min 500 r.sortWidth)
        ejectTimeout := max 2 (min 60 r.ejectTimeout) }

/-- What comes behind the good records of a load (R147, R148): no record is counted any more; the body ends before the next
one's last byte; or the next one is whole and none that its table takes. `size` is the length a record gives itself. -/
def LoadEnds {α : Type} (Sent : List Byte → α → Prop) (size : List Byte → Nat) (tail : List Byte) (more : Nat) :
    Option TableErrorReason → Prop
  | none => more = 0
  | some .truncatedRecord => 0 < more ∧ tail.length < size tail
  | some .value => 0 < more ∧ size tail ≤ tail.length ∧ ∀ e, ¬Sent (tail.take (size tail)) e
  | some .mode | some .index | some .inUse | some .poolFull => False

/-- The head frame is a WRITE load whose first records are good and mean `es`, and which has `fault` behind them. -/
def State.LoadCarries {α : Type} (s : State) (table : Byte) (Sent : List Byte → α → Prop) (size : List Byte → Nat)
    (start : Nat) (es : List α) (fault : Option TableErrorReason) : Prop :=
  ∃ (records : List (List Byte)) (more : Nat) (tail : List Byte),
    s.headIs 0x20 (tableLoadBody table 0x01 start (records.length + more) (records.flatten ++ tail)) 1 ∧
      start ≤ 255 ∧ records.length + more ≤ 255 ∧ records.length = es.length ∧
      (∀ r ∈ records.zip es, Sent r.1 r.2) ∧ LoadEnds Sent size tail more fault

/-- The report of such a load (R149). At the entry `stop` a record stops the load with `reason` before its bytes are looked
at; the load stops there, or with `fault` if that comes first, or is applied whole. -/
def loadReport (table : Byte) (start good stop : Nat) (reason : TableErrorReason) (fault : Option TableErrorReason) :
    List Report :=
  if good < stop - start ∨ good = stop - start ∧ fault = none then
    fault.toList.map fun r => .tableError table (start + good) r good
  else [.tableError table (max start stop) reason (stop - start)]

/-- The bytes of a frame arriving on LINK IN without byte errors, one command each (R162). -/
def arriving (bs : List Byte) : List Instr :=
  bs.map fun b => .linkByteReceived b (setCard b % 2 == 0) true

/-- A run of commands, one after another; none of them stops the part. -/
def State.run (s : State) : List Instr → State
  | [] => s
  | c :: cs =>
    match exec c s with
    | .next t => t.run cs
    | .fault _ | .refused _ => s

/-! ### What the larger effects come to -/

/-- The head frame has left its entry, and these reports stand at the tail of the Report Queue; nothing else has changed
(R168, R170, R176). -/
def State.answered (s : State) (rs : List Report) : State :=
  { s with
    link := { s.link with frames := s.link.frames.eraseP Frame.isReady }
    reports := s.reports ++ rs }

/-- The commands that take the head frame, but for PART_RESET, which a frame that waits does not hold back (R171, R172). -/
def frameCommands (trackZero : ChannelSet) : List Instr :=
  [.trackSegment, .layoutWrite, .patchWrite, .patchClear, .poolAppend, .poolClear, .precompWrite, .channelWrite,
    .tableLoadRefused, .jobSet, .passBegin trackZero, .passAbort, .channelEnable, .channelDisable, .channelReset,
    .channelControlRefused, .statusQuery]

/-- The commands that take a head frame of a kind (R170). -/
def commandsOf (kind : Byte) (trackZero : ChannelSet) : List Instr :=
  if kind = 0x10 then [.trackSegment]
  else if kind = 0x20 then
    [.layoutWrite, .patchWrite, .patchClear, .poolAppend, .poolClear, .precompWrite, .channelWrite, .tableLoadRefused]
  else if kind = 0x21 then [.jobSet]
  else if kind = 0x30 then [.passBegin trackZero]
  else if kind = 0x31 then [.passAbort]
  else if kind = 0x40 then [.channelEnable, .channelDisable, .channelReset, .channelControlRefused]
  else if kind = 0x50 then [.statusQuery]
  else if kind = 0x5F then [.partReset]
  else []

/-- A reception error has ended the frame in reception (R166, R167): the receiver hunts again, a frame with an entry
has left it, the error is counted, and a FRAME-ERROR with the kind as received is placed if an entry is free. -/
def State.endedInError (s : State) (r : Reception) (reason : FrameErrorReason) : State :=
  { s with
    link :=
      { s.link with
        reception := none
        receptionErrors := min 65535 (s.link.receptionErrors + 1)
        frames := if r.destination = .entry then s.link.frames.filter Frame.isReady else s.link.frames }
    reports := if s.reports.length < 32 then s.reports ++ [.frameError reason r.kind] else s.reports }

/-- A segment of `c` sectors from index `k0` on, for track `t`, that carries the tag of the open pass and passes R21 to
R23. -/
structure SegmentChecked (s : State) (t k0 c : Byte) (data : List Byte) : Prop where
  head    : s.headIs 0x10 (s.control.pass.tag :: t :: k0 :: c :: data) 1
  opened  : s.passOpen = true
  stream  : s.formatOnly = false
  track   : t.toNat < s.layout.tracks
  sectors : 1 ≤ c.toNat ∧ k0.toNat + c.toNat ≤ s.layout.n
  length  : data.length = c.toNat * s.layout.size

/-- The sectors `k0`, `k0 + 1`, .. of a segment have been written into slot `i`, which was `start` before, for the track
`t0` (R24, R28 to R31). -/
structure SegmentTaken (s t : State) (i : Fin 8) (start : Slot) (t0 k0 c : Nat) (data : List Byte) :
    Prop where
  /-- The c indexes join the sector-present set. -/
  present : ∀ k < 48, setHas t.store.slots[i].present k = (setHas start.present k || decide (k0 ≤ k ∧ k < k0 + c))
  track   : t.store.slots[i].track = some t0
  claims  : t.store.slots[i].claims = start.claims
  /-- The slot completes when its present set holds every index (R29). -/
  state   : t.store.slots[i].state =
    if ∀ k < s.layout.n, setHas t.store.slots[i].present k = true then .complete else .filling
  /-- The sectors go to their places, and every other byte of the data area stays. -/
  written : ∀ p (h : p < data.length), memRead t.store.slots[i].data (k0 * s.layout.size + p) = data[p]
  kept    : ∀ a, a < k0 * s.layout.size ∨ k0 * s.layout.size + data.length ≤ a →
    memRead t.store.slots[i].data a = memRead s.store.slots[i].data a
  others  : ∀ j : Fin 8, j ≠ i → t.store.slots[j] = s.store.slots[j]
  /-- The channels of the claim set that wait for the track go on to WAITING-INDEX when the slot completes (R29). -/
  told    : ∀ ch : ChannelNo, t.chan ch =
    if t.store.slots[i].state = .complete ∧ setHas start.claims ch = true ∧ (s.chan ch).state = .waitingTrack ∧
        (s.chan ch).cursor = some t0
      then { s.chan ch with state := .waitingIndex } else s.chan ch
  /-- The starvation timer stands at the full timeout if it runs (R30, R56). -/
  timer   : t.control =
    { s.control with
      starvation := if t.starving then some (s.now + s.job.starvationTimeout * 1000000000) else none }
  rest    : t.pending = s.pending ∧ t.now = s.now ∧ t.tables = s.tables ∧ t.pool = s.pool ∧ t.reports = s.reports ∧
    t.link = s.dropHead.link

/-- The waking of the segment that waits at the head came before the closure of the pass by channel `ch` (R37): the segment
has left its entry, and its sectors have gone into the lowest-numbered of the slots that `ch` gave up. -/
def WokenFirst (s t : State) (ch : ChannelNo) : Prop :=
  ∃ f i, s.headFrame = some f ∧ s.segmentWaits f = true ∧ t.link = s.dropHead.link ∧
    (s.store.slots[(i : Fin 8)].release ch).state = .free ∧
    (∀ j : Fin 8, j < i → (s.store.slots[j].release ch).state ≠ .free) ∧
    (∀ j : Fin 8, j ≠ i → ∀ a, memRead t.store.slots[j].data a = memRead s.store.slots[j].data a) ∧
    ∀ a, memRead t.store.slots[i].data a =
      memRead (memWrite s.store.slots[i].data (num1 f.body 2 * s.layout.size) (f.body.drop 4)) a

/-- A copy record with its outcome decided (R61, R78, R130). -/
def CopyRecord.closed (r : CopyRecord) (e : CopyEnd) (policy : SerialPolicy) (failingTrack : Option Nat) : CopyRecord :=
  { r with
    outcome := e.outcome
    reason := e.reason
    sort := e.sort
    failingTrack := failingTrack
    disposition := r.serial.map fun _ => e.disposition policy }

/-- A channel that has entered REPORTING with this copy record: its COPY-RESULT stands at the tail of the held reports, WRITE
GATE is off, no attempt record and no cursor is held, the recovery timer and a step or settle in progress have stopped,
and a pending settings record has become the active one (R63, R78, R80). -/
def Channel.reported (c : Channel) (ch : ChannelNo) (d : CopyRecord) (now : Nat) : Channel :=
  { c with
    state := .reporting
    copy := some d
    held := c.held ++ [.copyResult (d.result ch)]
    cursor := none
    attempt := none
    recoveryTimer := none
    stepTimer := none
    settleTimer := none
    active := c.pendingRecord.getD c.active
    pendingRecord := none
    monitor := if c.state.motor then c.monitor else c.monitor.started now c.active.periodMax
    lines := { c.lines with writeGate := false, writeData := [] } }

/-- A copy has ended (R34, R51, R52, R61, R63, R78, R80, R130; log entries 9, 13 and 24). -/
structure CopyEnded (s t : State) (ch : ChannelNo) (e : CopyEnd) : Prop where
  /-- The channel is in REPORTING; nothing else of it has changed. The failing track is the cursor, absent for a copy that
  passed and in RECALIBRATING. -/
  channel  : ∀ r, (s.chan ch).copy = some r → t.chan ch = (s.chan ch).reported ch
    (r.closed e s.job.serialPolicy
      (if e = .passed ∨ (s.chan ch).state = .recalibrating then none else (s.chan ch).cursor)) s.now
  /-- The Pass Controller takes the end (R51). -/
  live     : t.control.pass.live = setDrop s.control.pass.live ch ∧ t.control.pass.enrolled = s.control.pass.enrolled
  counts   : t.control.pass.passed = s.control.pass.passed + (if e = .passed then 1 else 0) ∧
    t.control.pass.failed = s.control.pass.failed + (if e = .passed then 0 else 1) ∧
    t.control.jobPassed = if e = .passed then min 65535 (s.control.jobPassed + 1) else s.control.jobPassed
  job      : t.control.job = s.control.job ∧ t.control.copyNumber = s.control.copyNumber ∧
    t.control.pass.tag = s.control.pass.tag
  /-- A pass whose last live copy it was closes COMPLETED (R37, R52); else the pass is as it was, and the channel has left
  its claims (R34, R35). -/
  closes   : if s.passOpen = true ∧ setDrop s.control.pass.live ch = 0
    then t.passOpen = false ∧ t.control.pass.closeReason = some .completed ∧
      t.control.pass.closure = some
        { tag := s.control.pass.tag, reason := .completed, passed := t.control.pass.passed
          failed := t.control.pass.failed, jobPassed := t.control.jobPassed
          quotaRemaining := if s.job.quota = 0 then none else some (s.job.quota - t.control.jobPassed) } ∧
      t.store.fillCursor = 0 ∧ (∀ i : Fin 8, t.store.slots[i].state = .free ∧ t.store.slots[i].track = none ∧
        t.store.slots[i].present = 0 ∧ t.store.slots[i].claims = 0) ∧
      ((t.link = s.link ∧ SameData s t) ∨ WokenFirst s t ch)
    else t.control.pass.state = s.control.pass.state ∧ t.control.pass.closeReason = s.control.pass.closeReason ∧
      t.control.pass.closure = s.control.pass.closure ∧ t.store.fillCursor = s.store.fillCursor ∧
      (∀ i : Fin 8, t.store.slots[i] = s.store.slots[i].release ch) ∧ t.link = s.link ∧ SameData s t
  /-- The starvation timer stops if no channel waits for a track any more (R56). -/
  timer    : t.control.starvation =
    if t.starving then some (s.control.starvation.getD (s.now + s.job.starvationTimeout * 1000000000)) else none
  /-- The serial record bound to the copy meets its disposition (R130). -/
  serial   : t.pool =
    match (s.chan ch).bound with
    | some v => if e ≠ .passed ∧ s.job.serialPolicy = .reissue then v :: s.pool else s.pool
    | none => s.pool
  others   : ∀ d : ChannelNo, d ≠ ch → t.chan d = s.chan d
  rest     : t.pending = s.pending ∧ t.now = s.now ∧ t.tables = s.tables ∧ t.reports = s.reports

/-- The channel after a failed attempt is counted: WRITE GATE is off, the attempt record is gone, and the channel is in
WAITING-INDEX (R75, R115). -/
def Channel.lost (c : Channel) (detail : Option VerifyDetail) : Channel :=
  { c with
    state := .waitingIndex
    attempt := none
    attempts := c.attempts + 1
    copy := c.copy.map fun r => { r with retriesUsed := r.retriesUsed + 1, verifyDetail := detail <|> r.verifyDetail }
    lines := { c.lines with writeGate := false, writeData := [] } }

/-- An attempt has failed (R75, R116): either the channel is back in WAITING-INDEX on the same track and nothing else has
changed, or it was the last attempt the track may have and the copy has failed with the reason of its kind. -/
structure AttemptLost (s t : State) (ch : ChannelNo) (kind : FailKind) (detail : Option VerifyDetail) : Prop where
  retry : (s.chan ch).attempts + 1 ≤ s.job.retryLimit → t = s.setChan ch ((s.chan ch).lost detail)
  ends  : s.job.retryLimit < (s.chan ch).attempts + 1 →
    CopyEnded (s.setChan ch ((s.chan ch).lost detail)) t ch (.failed kind.reason (some .reject))

/-- The job's layout is `l`, and a PASS-BEGIN with this tag passes every check of R46. -/
structure PassMayBegin (s : State) (tag : Byte) (j : Job) (l : Layout) : Prop where
  tag     : tag ≠ 0
  idle    : s.passOpen = false ∧ s.control.pass.closure = none
  job     : s.control.job = some j
  layout  : s.tables.layouts[j.layoutIndex] = some l ∧ (j.stepFactor = 2 → l.cylinders ≤ 42)
  quota   : j.quota = 0 ∨ s.control.jobPassed ≠ j.quota
  patches : ∀ i : Fin 32, ∀ p, s.tables.patches[i] = some p →
    p.track < l.tracks ∧ p.sector ∈ l.sectors.map (·.id) ∧ p.offset + p.length ≤ l.size

/-- Every live copy has failed with the pass, and the pass has closed (R52, R54, R57, R131). -/
structure PassEnded (s t : State) (reason : CopyReason) (close : CloseReason) : Prop where
  /-- Each live channel is in REPORTING with its copy FAILED and its COPY-RESULT held. -/
  live    : ∀ (ch : ChannelNo) (r : CopyRecord), setHas s.control.pass.live ch = true → (s.chan ch).copy = some r →
    t.chan ch = (s.chan ch).reported ch
      (r.closed (.failed reason (some .reject)) s.job.serialPolicy
        (if (s.chan ch).state = .recalibrating then none else (s.chan ch).cursor)) s.now
  others  : ∀ ch : ChannelNo, setHas s.control.pass.live ch = false → t.chan ch = s.chan ch
  pass    : t.control.pass.state = .idle ∧ t.control.pass.tag = s.control.pass.tag ∧ t.control.pass.live = 0 ∧
    t.control.pass.enrolled = s.control.pass.enrolled ∧ t.control.pass.passed = s.control.pass.passed ∧
    t.control.pass.failed = s.control.pass.failed + s.inFlight ∧ t.control.pass.closeReason = some close
  /-- The closure report (R52). -/
  closure : t.control.pass.closure =
    some
      { tag := s.control.pass.tag, reason := close, passed := s.control.pass.passed
        failed := s.control.pass.failed + s.inFlight, jobPassed := s.control.jobPassed
        quotaRemaining := if s.job.quota = 0 then none else some (s.job.quota - s.control.jobPassed) }
  job     : t.control.job = s.control.job ∧ t.control.jobPassed = s.control.jobPassed ∧
    t.control.copyNumber = s.control.copyNumber ∧ t.control.starvation = none
  slots   : t.store.fillCursor = 0 ∧ ∀ i : Fin 8, t.store.slots[i].state = .free ∧ t.store.slots[i].track = none ∧
    t.store.slots[i].present = 0 ∧ t.store.slots[i].claims = 0
  /-- Under REISSUE the serials stand at the head, the lowest channel's first; under VOID they are gone (R130, R131). -/
  serials : t.pool =
    match s.job.serialPolicy with
    | .reissue =>
      (channelsUp.filter fun ch : ChannelNo => setHas s.control.pass.live ch.val).filterMap
          (fun ch => (s.chan ch).bound) ++ s.pool
    | .void => s.pool
  rest    : t.pending = s.pending ∧ t.now = s.now ∧ t.tables = s.tables ∧ t.link = s.link ∧ t.reports = s.reports ∧
    SameData s t

/-! ### What the events of a channel come to -/

/-- A head frame that waits (R171): too few report entries are free for it, or it is a segment for the next track while
every slot is COMPLETE (R27). -/
def State.HeldUp (s : State) (f : Frame) : Prop :=
  s.freeEntries < (if f.kind = 0x5F then 0 else if f.kind = 0x50 ∧ f.body.length = 2 then 1 + setCard (byteAt f.body 1) else 1) ∨
    ∃ t k0 c data, SegmentChecked s t k0 c data ∧ t.toNat = s.store.fillCursor ∧
      ∀ j : Fin 8, s.store.slots[j].state = .complete ∧ s.store.slots[j].track ≠ some t.toNat

/-- An Index Monitor that has just begun, with its flags clear (R91, R100). -/
def Monitor.fresh (now periodMax : Nat) : Monitor :=
  { Monitor.initial with running := true, indexTimer := some (now + 2 * periodMax * 1000) }

/-- A channel that a channel reset or a part reset has cleared (R88, R89, R100): the pending record is the active one, every
timer is stopped, no strobe is given, the cylinder is absent, the attempt count 0 and the Index Monitor begun afresh. -/
def Channel.wiped (c : Channel) (now : Nat) : Channel :=
  { c with
    active := c.pendingRecord.getD c.active
    pendingRecord := none
    spinUpTimer := none, idleTimer := none, recoveryTimer := none, sortTimer := none, ejectTimer := none
    stepTimer := none, settleTimer := none, recalSteps := 0
    removalNoted := false, strobeSort := none, cylinder := none, attempts := 0
    monitor :=
      if c.state.motor then .fresh now (c.pendingRecord.getD c.active).periodMax else Monitor.initial
    lines := { c.lines with accept := false, reject := false } }

/-- A wiped channel goes where the table of R88 leads it. -/
def Channel.resumed (c : Channel) (now : Nat) : Channel :=
  if c.active.enabled then
    if c.lines.mediaPresent then
      { c with
        state := .spinup, resetHeld := false, spinUpTimer := some (now + 4000000000)
        monitor := .fresh now c.active.periodMax }
    else { c with state := .empty, resetHeld := false, monitor := Monitor.initial }
  else { c with state := .offline, resetHeld := false, monitor := Monitor.initial }

/-- A channel whose reset was held until its tail report was placed goes where the table of R88 leads it, with the Index
Monitor that has run meanwhile: in SPINUP it acts at once if that is STABLE (R67, R88, R100). -/
def Channel.released (c : Channel) (ch : ChannelNo) (now : Nat) : Channel :=
  if c.active.enabled then
    if c.lines.mediaPresent then
      if c.monitor.count = 3 then
        if c.lines.writeProtect then
          { c with
            state := .rejecting, resetHeld := false, spinUpTimer := none, idleTimer := none
            held := c.held ++ [.channelEvent ch .writeProtected] }
        else
          { c with
            state := .ready, resetHeld := false, spinUpTimer := none
            idleTimer := if c.active.idleTimeout = 0 then none else some (now + c.active.idleTimeout * 1000000000) }
      else
        { c with state := .spinup, resetHeld := false, idleTimer := none, spinUpTimer := some (now + 4000000000) }
    else
      { c with
        state := .empty, resetHeld := false, idleTimer := none, spinUpTimer := none, monitor := c.monitor.stopped }
  else
    { c with
      state := .offline, resetHeld := false, idleTimer := none, spinUpTimer := none, monitor := c.monitor.stopped }

/-- A channel settings record has been placed (R63): it waits while the channel is in a copy state, and else is active at once,
where a change of enabled acts as an ENABLE or a DISABLE would (R66, R86, R87). -/
def Channel.placed (c : Channel) (r : Settings) (now : Nat) : Channel :=
  if c.state.isCopy then { c with pendingRecord := some r }
  else
    let d := { c with active := r, pendingRecord := none }
    if c.active.enabled = false ∧ r.enabled = true ∧ c.state = .offline then
      if c.lines.mediaPresent then
        { d with
          state := .spinup, idleTimer := none, spinUpTimer := some (now + 4000000000)
          monitor := c.monitor.started now r.periodMax }
      else { d with state := .empty, idleTimer := none, spinUpTimer := none }
    else if c.active.enabled = true ∧ r.enabled = false ∧ c.state ∈ [.empty, .spinup, .ready, .stopped] then
      { d with
        state := .offline, idleTimer := none, spinUpTimer := none
        monitor := if c.state.motor then c.monitor.stopped else c.monitor }
    else d

/-- Re-arm (R85): the motor is off and no strobe is given; the channel goes to EMPTY, or SPINUP with the media in, if it is
enabled and auto-rearm is yes, and else to OFFLINE with enabled no in both records. -/
def Channel.rearmed (c : Channel) (now : Nat) : Channel :=
  let d : Channel :=
    { c with
      sortTimer := none, ejectTimer := none, spinUpTimer := none, idleTimer := none
      removalNoted := false, strobeSort := none
      monitor := if c.state.motor then c.monitor.stopped else c.monitor
      lines := { c.lines with accept := false, reject := false } }
  if c.active.enabled = true ∧ c.active.autoRearm = true then
    if c.lines.mediaPresent then
      { d with
        state := .spinup, spinUpTimer := some (now + 4000000000)
        monitor := c.monitor.started now c.active.periodMax }
    else { d with state := .empty }
  else
    { d with
      state := .offline
      active := { c.active with enabled := false }
      pendingRecord := c.pendingRecord.map fun r => { r with enabled := false } }

/-- A channel with its motor on enters SORTING (R83): the motor is off, and the sort delay runs, or the strobe if the delay
is 0. -/
def Channel.sorted (c : Channel) (sort : Strobe) (now : Nat) : Channel :=
  { c with
    state := .sorting
    monitor := c.monitor.stopped
    strobeSort := some sort
    removalNoted := false
    sortTimer := some (now + (if c.active.sortDelay = 0 then c.active.sortWidth else c.active.sortDelay) * 1000000)
    lines :=
      if c.active.sortDelay = 0 then
        { c.lines with accept := decide (sort = .accept), reject := decide (sort = .reject) }
      else c.lines }

/-- The next step of a seek to the cylinder `target` and the head `head`, or its settle if the head is there (R71). -/
def Channel.stepped (c : Channel) (target head now : Nat) : Channel :=
  let arrived := c.cylinder.getD target = target
  { c with
    cylinder := c.cylinder.map fun y => if y < target then y + 1 else if target < y then y - 1 else y
    stepTimer := if arrived then none else some (now + c.active.stepRate * 1000000)
    settleTimer := if arrived then some (now + c.active.settle * 1000000) else c.settleTimer
    lines :=
      { c.lines with
        steps := c.lines.steps + if arrived then 0 else 1
        headSelect := if arrived then head else c.lines.headSelect } }

/-- A seek begins: DIRECTION points the way, unless there is none to go (R71; log entry 12). -/
def Channel.seekBegun (c : Channel) (target head now : Nat) : Channel :=
  let d := c.stepped target head now
  { d with
    state := .seeking
    recalSteps := 0
    lines :=
      { d.lines with
        direction :=
          if c.cylinder.getD target < target then .inward
          else if target < c.cylinder.getD target then .outward
          else c.lines.direction } }

/-- The running Index Monitor of a channel has measured a leading edge at time `t` (R92). -/
def State.edgeSeen (s : State) (ch : ChannelNo) (t : Nat) (writeProtect : Bool) : State :=
  State.setChan { s with now := max s.now t } ch
    { s.chan ch with
      monitor := (s.chan ch).monitor.leadingEdge (s.chan ch).active t (max s.now t)
      lines := { (s.chan ch).lines with index := true, writeProtect := writeProtect } }

/-- And the channel, in a copy state, has stopped or started its recovery timer on a change of STABLE (R76). -/
def State.recoverySeen (s : State) (ch : ChannelNo) (t : Nat) (writeProtect : Bool) : State :=
  let u := s.edgeSeen ch t writeProtect
  u.setChan ch
    { u.chan ch with
      recoveryTimer :=
        if (s.chan ch).monitor.count ≠ 3 ∧ (u.chan ch).monitor.count = 3 then none
        else if (s.chan ch).monitor.count = 3 ∧ (u.chan ch).monitor.count ≠ 3 ∧ (s.chan ch).recoveryTimer = none then
          some (max s.now t + 4000000000)
        else (s.chan ch).recoveryTimer }

/-- WRITE GATE and WRITE DATA of a channel are off (R107). -/
def State.gateOff (s : State) (ch : ChannelNo) : State :=
  s.setChan ch { s.chan ch with lines := { (s.chan ch).lines with writeGate := false, writeData := [] } }

/-- The attempt of a finished track is discarded, the copy's verify detail is absent, and the channel has left the slot
(R33, R74, R114). -/
def State.trackDone (s : State) (ch : ChannelNo) (a : Attempt) : State :=
  State.setChan
    { s with
      store :=
        { s.store with
          slots :=
            match a.source with
            | .fill => s.store.slots
            | .slot i => s.store.slots.set i (s.store.slots[i].release ch) } }
    ch
    { s.chan ch with
      attempt := none
      copy := (s.chan ch).copy.map fun r => { r with verifyDetail := none }
      lines := { (s.chan ch).lines with writeGate := false, writeData := [] } }

/-- A track is finished (R74): the channel goes on to seek the next one, or its copy passes after the last. -/
structure TrackFinished (s t : State) (ch : ChannelNo) (a : Attempt) : Prop where
  more : a.track + 1 < s.layout.tracks → t = (s.trackDone ch a).setChan ch
    (Channel.seekBegun { (s.trackDone ch a).chan ch with cursor := some (a.track + 1), attempts := 0 }
      ((a.track + 1) / s.layout.heads * s.job.stepFactor) ((a.track + 1) % s.layout.heads) s.now)
  last : s.layout.tracks ≤ a.track + 1 → CopyEnded (s.trackDone ch a) t ch .passed

/-- What a drive gives that reads back a track just as it was written (R8): for each sector in physical order its header
mark with the header and its check, and its data mark with the data and its check. -/
def State.readBack (s : State) (ch : ChannelNo) (source : Source) (track : Nat) : List Instr :=
  (s.layout.sectors.rotateLeft (track * s.layout.skew % s.layout.n)).flatMap fun e =>
    let header : List Byte :=
      [BitVec.ofNat 8 (track / s.layout.heads), BitVec.ofNat 8 (track % s.layout.heads), e.id,
        BitVec.ofNat 8 s.layout.sizeCode]
    let code : Byte := if e.kind = .normal then 0x6B else 0x6C
    let data := s.sectorData ch source track e.id
    [.headerMarkRead ch (byteAt header 0) (byteAt header 1) (byteAt header 2) (byteAt header 3)
        (cyclicCheck ([0xB5, 0xB5, 0xB5, 0x5A] ++ header)),
      .dataFieldRead ch code (data ++ checkBytes (cyclicCheck ([0xB5, 0xB5, 0xB5, code] ++ data)))]

/-! ### The laws of the part -/

/-- A data area holds its bytes in canonical form, and none beyond its 12,288 (R18). -/
def dataOk (m : List Host.Cell) : Bool := memWf m && m.all fun c => decide (c.1 < Config.slotBytes)

/-- The tables and the data areas: what the Table Store and the Track Store hold is what their records allow (R2, R3,
R18, R41, R62, R136, R156). -/
structure TablesLaw (s : State) : Prop where
  layouts  : ∀ i : Fin 8, ∀ l, s.tables.layouts[i] = some l → l.valid = true
  patches  : ∀ i : Fin 32, ∀ p, s.tables.patches[i] = some p → p.valid = true
  precompD : s.tables.precompD.outer ≤ 15 ∧ s.tables.precompD.inner ≤ 15
  precompH : s.tables.precompH.outer ≤ 15 ∧ s.tables.precompH.inner ≤ 15
  job      : ∀ j, s.control.job = some j → j.valid = true
  active   : ∀ ch, (s.chan ch).active.inRange = true
  waiting  : ∀ ch r, (s.chan ch).pendingRecord = some r → r.inRange = true
  data     : ∀ i : Fin 8, dataOk s.store.slots[i].data = true

/-- The Link Port and the Report Queue (R21, R164, R167, R168, R173, R175). -/
structure LinkLaw (s : State) : Prop where
  frames    : s.link.frames.length ≤ Config.frameEntries
  /-- HOLD is asserted exactly while both entries are occupied (R168). -/
  hold      : s.hold = true ↔ s.link.frames.length = 2
  younger   : ∀ f ∈ s.link.frames.dropLast, f.isReady = true
  entry     : (∃ f ∈ s.link.frames, f.isReady = false) ↔ ∃ r, s.link.reception = some r ∧ r.destination = .entry
  bodies    : ∀ f ∈ s.link.frames, f.body.length ≤ Config.maxBody
  length    : ∀ r, s.link.reception = some r → r.destination = .entry →
    (s.receivingBody.length = min (r.count - 3) r.length) ∧ (3 ≤ r.count → r.length ≤ Config.maxBody)
  errors    : s.link.receptionErrors ≤ Config.counterMax
  stale     : s.link.staleSegments ≤ Config.counterMax
  sending   : s.link.transmit = .sending → ∃ r rest, s.reports = r :: rest ∧ s.link.linkOut = r.frame
  resting   : s.link.transmit = .idle → s.link.linkOut = []
  reports   : s.reports.length ≤ Config.queueSize

/-- The Serial Pool (R125, R126): the queue and the bound records together are at most 64, and each record has 1 to 16
bytes. -/
structure PoolLaw (s : State) : Prop where
  capacity : s.pool.length + s.boundCount ≤ Config.poolSize
  queue    : ∀ v ∈ s.pool, 1 ≤ v.length ∧ v.length ≤ 16
  bound    : ∀ ch v, (s.chan ch).bound = some v → 1 ≤ v.length ∧ v.length ≤ 16

/-- The Pass Controller (R44, R45, R50 to R53, R61). -/
structure PassLaw (s : State) : Prop where
  /-- The live set is the channels in a copy state (R51). -/
  live     : ∀ ch : ChannelNo, setHas s.control.pass.live ch = (s.chan ch).state.isCopy
  /-- The enrolled set is those and the channels whose COPY-RESULT waits (R44). -/
  enrolled : ∀ ch : ChannelNo, setHas s.control.pass.enrolled ch =
    ((s.chan ch).state.isCopy || (s.chan ch).state == .reporting)
  /-- A copy record is held from enrollment to the placing of the COPY-RESULT (R61). -/
  copies   : ∀ ch : ChannelNo, (s.chan ch).copy.isSome = setHas s.control.pass.enrolled ch
  /-- A pass is open while copies live, and closes when its live set becomes empty (R52). -/
  opened   : s.passOpen = decide (s.control.pass.live ≠ 0)
  /-- A closure report is held only after the pass (R52). -/
  closure  : s.control.pass.closure.isSome = true → s.passOpen = false
  /-- With no pass open and no closure report held, every COPY-RESULT has been placed (R53). -/
  answered : s.passBusy = false → s.control.pass.enrolled = 0
  /-- An open pass has a job, a tag that is not 0 and no close reason (R44, R46). -/
  inForce  : s.passOpen = true →
    s.control.job.isSome = true ∧ s.control.pass.tag ≠ 0 ∧ s.control.pass.closeReason = none
  /-- The law of R50. -/
  quota    : s.job.quota ≠ 0 → s.control.jobPassed + s.inFlight ≤ s.job.quota
  /-- The starvation timer runs while a live channel waits for a track of an open STREAM pass (R56). -/
  timer    : s.control.starvation.isSome = s.starving
  /-- The counts (R44, R45, R52). -/
  counts   : s.control.pass.passed + s.control.pass.failed + s.inFlight ≤ 8
  number   : 1 ≤ s.control.copyNumber ∧ s.control.copyNumber ≤ Config.counterMax
  passed   : s.control.jobPassed ≤ Config.counterMax

/-- The window of the Track Store (R18, R20, R28, R32 to R37). -/
structure WindowLaw (s : State) : Prop where
  /-- A FREE slot holds no track, no sectors and no claims (R18). -/
  free     : ∀ i : Fin 8, s.store.slots[i].state = .free →
    s.store.slots[i].track = none ∧ s.store.slots[i].present = 0 ∧ s.store.slots[i].claims = 0
  /-- A slot that is not FREE holds a track below the fill cursor (R20). -/
  held     : ∀ i : Fin 8, s.store.slots[i].state ≠ .free →
    ∃ t, s.store.slots[i].track = some t ∧ t < s.store.fillCursor
  /-- No two slots hold the same track (R28). -/
  distinct : ∀ i j : Fin 8, s.store.slots[i].state ≠ .free →
    s.store.slots[i].track = s.store.slots[j].track → i = j
  /-- At most one slot is FILLING, and its claim set is the live set (R28). -/
  filling  : ∀ i j : Fin 8, s.store.slots[i].state = .filling → s.store.slots[j].state = .filling → i = j
  whole    : ∀ i : Fin 8, s.store.slots[i].state = .filling → s.store.slots[i].claims = s.control.pass.live
  /-- No slot is COMPLETE with an empty claim set (R35), and all its sectors are present (R29). -/
  complete : ∀ i : Fin 8, s.store.slots[i].state = .complete →
    s.store.slots[i].claims ≠ 0 ∧ s.store.slots[i].full s.layout = true
  /-- Only live channels claim (R28, R34). -/
  claims   : ∀ (i : Fin 8) (ch : ChannelNo), setHas s.store.slots[i].claims ch = true →
    setHas s.control.pass.live ch = true
  /-- With no pass open, and in a format-only pass, every slot is FREE and the cursor 0 (R37, R58). -/
  closed   : s.passOpen = false ∨ s.formatOnly = true →
    s.store.fillCursor = 0 ∧ ∀ i : Fin 8, s.store.slots[i].state = .free
  /-- The cursor stays within the layout's tracks (R20). -/
  cursor   : s.passOpen = true → s.store.fillCursor ≤ s.layout.tracks
  /-- A live channel claims exactly the held tracks from its cursor on (R28, R33), and they are all held. -/
  claimed  : ∀ (i : Fin 8) (ch : ChannelNo) (c t : Nat), setHas s.control.pass.live ch = true →
    (s.chan ch).cursor = some c → s.store.slots[i].track = some t → (setHas s.store.slots[i].claims ch = decide (c ≤ t))
  ahead    : ∀ (ch : ChannelNo) (c t : Nat), setHas s.control.pass.live ch = true → (s.chan ch).cursor = some c →
    c ≤ t → t < s.store.fillCursor → ∃ i : Fin 8, s.store.slots[i].track = some t
  /-- In a STREAM pass no channel works beyond the fill cursor (R20, R73). -/
  behind   : ∀ (ch : ChannelNo) (c : Nat), s.formatOnly = false → (s.chan ch).cursor = some c → c ≤ s.store.fillCursor
  /-- An attempt reads the fill byte in a format-only pass, and else the COMPLETE slot of its track (R103). -/
  source   : ∀ (ch : ChannelNo) (a : Attempt), (s.chan ch).attempt = some a →
    (s.chan ch).cursor = some a.track ∧
      if s.formatOnly then a.source = .fill else ∃ i, a.source = .slot i ∧ s.completeSlot a.track = some i
  /-- A channel that writes or is about to has its track in a COMPLETE slot (R32, R103). -/
  ready    : ∀ ch : ChannelNo, s.formatOnly = false →
    (s.chan ch).state = .waitingIndex ∨ (s.chan ch).state = .writing ∨ (s.chan ch).state = .verifying →
    ∃ c, (s.chan ch).cursor = some c ∧ (s.completeSlot c).isSome = true

/-- One Index Monitor (R90, R91): it runs with the motor, and holds its motor-off values while it does not. -/
structure MonitorLaw (c : Channel) : Prop where
  running : c.monitor.running = c.state.motor
  count   : c.monitor.count ≤ 3 ∧ c.monitor.count ≤ c.monitor.history.length
  history : c.monitor.history.length ≤ 4 ∧ ∀ p ∈ c.monitor.history, p ≤ Config.periodMaxHeld
  width   : ∀ w, c.monitor.lastWidth = some w → w ≤ Config.periodMaxHeld
  timer   : c.monitor.indexTimer.isSome = c.monitor.running
  off     : c.monitor.running = false →
    c.monitor.history = [] ∧ c.monitor.lastEdge = none ∧ c.monitor.pulseStart = none ∧ c.monitor.lastWidth = none
  /-- A channel in READY is STABLE, and one in SPINUP is not (R68, R95). -/
  ready   : c.state = .ready → c.monitor.stable = true
  spinup  : c.state = .spinup → c.monitor.stable = false

/-- The state in which a channel waits to place a report: a tail report belongs to REPORTING or REJECTING (R80). -/
def Report.tailState : Report → Option ChState
  | .copyResult _ => some .reporting
  | .channelEvent _ .writeProtected | .channelEvent _ .spinFault => some .rejecting
  | .channelEvent _ .jammed | .channelEvent _ .spindleStopped => none
  | .passOpened _ _ _ | .passClosed _ | .partStatus _ | .channelStatus _ | .frameError _ _ => none
  | .tableError _ _ _ _ | .commandRefused _ _ _ | .segmentRefused _ _ _ | .poolLow _ | .resetDone _ _ => none

/-- The state a channel is in, if it waits to place a tail report (R81, R82). -/
def ChState.placing (st : ChState) : Option ChState :=
  if st = .reporting ∨ st = .rejecting then some st else none

/-- One drive channel (R60, R61, R63, R65, R80, R102, R104). -/
structure ChannelLaw (ch : ChannelNo) (c : Channel) : Prop where
  monitor  : MonitorLaw c
  /-- A cursor is held from enrollment to the end of the copy (R60). -/
  cursor   : c.cursor.isSome = c.state.isCopy
  /-- An attempt record is held in WRITING and VERIFYING alone (R102). -/
  attempt  : c.attempt.isSome = (c.state == .writing || c.state == .verifying)
  phase    : ∀ a, c.attempt = some a → (a.phase = .read ↔ c.state = .verifying)
  /-- The write position counts from the write start to the edge that ends the write, and the last check comes after the
  write start (R102, R105). -/
  position : ∀ a, c.attempt = some a → a.writeBegan.isSome = (a.phase != .delay) ∧
    a.writeEnded.isSome = (a.phase == .read) ∧ (a.lastCheck = true → a.phase ≠ .delay)
  /-- WRITE GATE is on in the WRITE phase alone (R104, R189). -/
  gate     : c.lines.writeGate = true ↔ ∃ a, c.attempt = some a ∧ a.phase = .write
  /-- The timers run in the states they belong to (R60). -/
  spinUp   : c.spinUpTimer.isSome = (c.state == .spinup)
  idle     : c.idleTimer.isSome = true → c.state = .ready
  recovery : c.recoveryTimer.isSome = true → c.state.isCopy = true
  sort     : c.sortTimer.isSome = (c.state == .sorting)
  /-- A step interval runs in RECALIBRATING and, until the settle, in SEEKING; a settle in SEEKING alone (R70, R71). -/
  stepping : c.stepTimer.isSome = (c.state == .recalibrating || (c.state == .seeking && c.settleTimer.isNone))
  settling : c.settleTimer.isSome = true → c.state = .seeking
  eject    : c.ejectTimer.isSome = (c.state == .unload)
  /-- A strobe is given in SORTING alone, and of the channel's strobe sort (R83). -/
  strobe   : c.strobeSort.isSome = (c.state == .sorting)
  accept   : c.lines.accept = true → c.strobeSort = some .accept
  reject   : c.lines.reject = true → c.strobeSort = some .reject
  removal  : c.removalNoted = true → c.strobing = true
  /-- A pending record is held in a copy state alone (R63). -/
  waiting  : c.pendingRecord.isSome = true → c.state.isCopy = true
  /-- A channel reset waits in REPORTING and REJECTING alone (R88). -/
  reset    : c.resetHeld = true → c.state = .reporting ∨ c.state = .rejecting
  /-- The held list has at most three reports: JAMMED and SPINDLE-STOPPED at most once each, and last of all the tail
  report of REPORTING or REJECTING, in these states alone (R80). -/
  held     : c.held.length ≤ 3 ∧ c.held.Nodup
  events   : ∀ r ∈ c.held, r.tailState = none → r = .channelEvent ch .jammed ∨ r = .channelEvent ch .spindleStopped
  tail     : ∀ r ∈ c.held.dropLast, r.tailState = none
  tailLast : c.held.getLast?.bind Report.tailState = c.state.placing
  /-- OFFLINE is the state of a channel that is not enabled (R66, R85 to R87). -/
  offline  : c.state = .offline → c.active.enabled = false
  enabled  : c.state = .empty ∨ c.state = .spinup ∨ c.state = .ready ∨ c.state = .stopped → c.active.enabled = true
  /-- The drive's media where the channel's state says it is (R66, R79, R84). -/
  media    : c.state = .spinup ∨ c.state = .ready ∨ c.state = .stopped ∨ c.state = .unload ∨ c.state = .jammed ∨
    c.state.isCopy = true → c.lines.mediaPresent = true
  sorting  : c.state = .sorting → c.removalNoted = false → c.lines.mediaPresent = true
  empty    : c.state = .empty → c.lines.mediaPresent = false

/-- Every channel, with the attempt accounting of R75: no more than retry limit + 1 attempts on a track. -/
structure ChannelsLaw (s : State) : Prop where
  each     : ∀ ch, ChannelLaw ch (s.chan ch)
  attempts : ∀ ch, (s.chan ch).state.isCopy = true → (s.chan ch).attempts ≤ s.job.retryLimit

/-- All the laws of the part. -/
structure Laws (s : State) : Prop where
  tables   : TablesLaw s
  link     : LinkLaw s
  pool     : PoolLaw s
  pass     : PassLaw s
  channels : ChannelsLaw s
  window   : WindowLaw s

end Sys2Proof.Machine
end

