-- ==== Sys2Proof/Certificates/Slice0/Obligations.lean ====
section
/-!
DEFINITION. The statements about the DC-8, in the order of OBLIGATIONS.json: the whole machine, the laws that every step
keeps, the image link, the Track Store, the tables, the job and the pass, the channels' control, the reports, the
channels' events, the revolutions and the track.
-/

open Sys2Proof Sys2Proof.Machine

/-! ### The whole machine -/

/-- A step takes the command at the front of the queue and leaves the queue's rest; with none waiting a microsecond
passes. The queue and the idle step are the model's own (log entries 1 and 2). -/
def Obligations.StepTakesTheFrontCommand : Prop :=
  (∀ (s : State) (c : Instr) (rest : List Instr), s.pending = c :: rest → step s = exec c { s with pending := rest }) ∧
    ∀ s : State, s.pending = [] → step s = .next { s with now := s.now + 1000 }

/-- Every command completes in every state: none stops the part, none touches the queue, and none turns the clock back
(log entries 1 and 2). -/
def Obligations.EveryCommandCompletes : Prop :=
  ∀ (c : Instr) (s : State), ∃ t, exec c s = .next t ∧ t.pending = s.pending ∧ s.now ≤ t.now

/-- The state after a power-on reset, block by block, where the manual gives a value (R1, R18, R20, R41, R44, R45, R56,
R60, R62, R90, R125, R136, R160, R174, R175, R189). -/
def Obligations.ResetGivesThePowerOnValues : Prop :=
  (∀ i : Fin 8, State.reset.tables.layouts[i] = none) ∧ (∀ i : Fin 32, State.reset.tables.patches[i] = none) ∧
    State.reset.tables.precompD = ⟨255, 0, 0⟩ ∧ State.reset.tables.precompH = ⟨255, 0, 0⟩ ∧
    State.reset.pool = [] ∧ State.reset.reports = [] ∧
    State.reset.control =
      { job := none
        pass :=
          { state := .idle, tag := 0, live := 0, enrolled := 0, passed := 0, failed := 0, closeReason := none
            closure := none }
        copyNumber := 1, jobPassed := 0, starvation := none } ∧
    State.reset.store.fillCursor = 0 ∧
    (∀ i : Fin 8, State.reset.store.slots[i].state = .free ∧ State.reset.store.slots[i].track = none ∧
      State.reset.store.slots[i].present = 0 ∧ State.reset.store.slots[i].claims = 0) ∧
    State.reset.link.reception = none ∧ State.reset.link.frames = [] ∧ State.reset.hold = false ∧
    State.reset.link.receptionErrors = 0 ∧ State.reset.link.staleSegments = 0 ∧
    State.reset.link.transmit = .idle ∧ State.reset.link.linkOut = [] ∧
    ∀ ch : ChannelNo,
      (State.reset.chan ch).state = .offline ∧ (State.reset.chan ch).cylinder = none ∧
      (State.reset.chan ch).cursor = none ∧ (State.reset.chan ch).attempts = 0 ∧ (State.reset.chan ch).copy = none ∧
      (State.reset.chan ch).activePrecomp = 0 ∧ (State.reset.chan ch).held = [] ∧
      (State.reset.chan ch).spinUpTimer = none ∧ (State.reset.chan ch).idleTimer = none ∧
      (State.reset.chan ch).recoveryTimer = none ∧ (State.reset.chan ch).sortTimer = none ∧
      (State.reset.chan ch).ejectTimer = none ∧ (State.reset.chan ch).removalNoted = false ∧
      (State.reset.chan ch).resetHeld = false ∧ (State.reset.chan ch).strobeSort = none ∧
      (State.reset.chan ch).pendingRecord = none ∧ (State.reset.chan ch).attempt = none ∧
      (State.reset.chan ch).active =
        { enabled := false, driveType := .track80, stepRate := 3, settle := 15, autoRearm := true, idleTimeout := 60
          sortDelay := 20, sortWidth := 50, ejectTimeout := 10, autoPrecomp := true, manualPrecomp := 0
          periodMin := 194000, periodMax := 206000, pulseMin := 200, pulseMax := 8000 } ∧
      (State.reset.chan ch).monitor =
        { running := false, lastEdge := none, pulseStart := none, history := [], lastWidth := none, count := 0
          periodShort := false, periodLong := false, pulseShort := false, pulseLong := false, indexTimer := none } ∧
      (State.reset.chan ch).lines.writeGate = false ∧ (State.reset.chan ch).lines.writeData = [] ∧
      (State.reset.chan ch).lines.accept = false ∧ (State.reset.chan ch).lines.reject = false ∧
      (State.reset.chan ch).lines.density = .d ∧ (State.reset.chan ch).lines.headSelect = 0 ∧
      (State.reset.chan ch).lines.direction = .outward

/-- The state after a power-on reset meets every law of the part. -/
def Obligations.ResetMeetsTheLaws : Prop := Laws State.reset

/-! ### The laws that every step keeps -/

/-- Every step keeps the tables and the data areas as their records allow. -/
def Obligations.StepKeepsTablesLaw : Prop :=
  ∀ s t : State, TablesLaw s → step s = .next t → TablesLaw t

/-- Every step keeps the law of the Link Port and the Report Queue. -/
def Obligations.StepKeepsLinkLaw : Prop :=
  ∀ s t : State, LinkLaw s → step s = .next t → LinkLaw t

/-- Every step keeps the serial pool's law: the queue and the bound records together are at most 64. -/
def Obligations.StepKeepsPoolLaw : Prop :=
  ∀ s t : State, PoolLaw s → step s = .next t → PoolLaw t

/-- Every step keeps the Pass Controller's law, the law of R50 and the conditions of the starvation timer among it. -/
def Obligations.StepKeepsPassLaw : Prop :=
  ∀ s t : State, PassLaw s → step s = .next t → PassLaw t

/-- From a state that meets every law, every step keeps the law of the channels. -/
def Obligations.StepKeepsChannelsLaw : Prop :=
  ∀ s t : State, Laws s → step s = .next t → ChannelsLaw t

/-- From a state that meets every law, every step keeps the law of the Track Store's window. -/
def Obligations.StepKeepsWindowLaw : Prop :=
  ∀ s t : State, Laws s → step s = .next t → WindowLaw t

/-! ### The image link (chapter 9) -/

/-- In HUNTING a byte 0xC3 without a byte error begins a frame, which takes a FREE entry if there is one and is else
received into nothing; any other byte is discarded and counted. HOLD is asserted from the start code that takes the last
FREE entry until an entry becomes FREE (R162, R163, R168, R169). -/
def Obligations.HuntingExaminesEachByte : Prop :=
  (∀ s : State, s.link.frames.length ≤ 2 → (s.hold = true ↔ s.link.frames.length = 2) ∧
    (∀ t, s.link.reception = none → exec (.linkByteReceived 0xC3 true true) s = .next t →
      (t.hold = true ↔ 1 ≤ s.link.frames.length)) ∧
    ∀ f rs, s.headFrame = some f → (s.answered rs).hold = false) ∧
  ∀ (s : State) (b : Byte) (parity stop : Bool), s.link.reception = none →
    exec (.linkByteReceived b parity stop) s =
      if b = 0xC3 ∧ (setCard b + if parity then 1 else 0) % 2 = 1 ∧ stop = true then
        .next { s with link := { s.link with
          frames := if s.link.frames.length < 2 then s.link.frames ++ [⟨.receiving, 0, []⟩] else s.link.frames
          reception := some
            { destination := if s.link.frames.length < 2 then .entry else .nothing
              count := 0, kind := none, length := 0, checkHigh := 0, byteError := false
              gapTimer := some (s.now + 16 * s.link.byteNs) } } }
      else .next { s with link := { s.link with receptionErrors := min 65535 (s.link.receptionErrors + 1) } }

/-- A frame of an inbound kind that arrives whole, without a byte error and with its check, while the receiver hunts and an
entry is FREE, becomes a READY entry behind the others, with its kind and body; nothing else changes (R162 to R165,
R168). -/
def Obligations.GoodFrameBecomesReady : Prop :=
  ∀ (s : State) (kind : Byte) (body : List Byte),
    s.link.reception = none → s.link.frames.length < 2 → (∀ f ∈ s.link.frames, f.state = .ready) →
    kind ∈ [0x10, 0x20, 0x21, 0x30, 0x31, 0x40, 0x50, 0x5F] → body.length ≤ 4112 →
    s.run (arriving (frameBytes kind body)) =
      { s with link := { s.link with frames := s.link.frames ++ [⟨.ready, kind, body⟩] } }

/-- Each byte of a frame is taken by its position: the kind, the length, the body, which goes into the frame's entry or into
nothing, and the first check byte. A byte error is kept in mind, and each byte restarts the gap timing. The byte that
completes the frame has it judged, the first case that applies deciding (R162, R164, R165, R167, R169, R172). -/
def Obligations.CompletedFrameIsJudged : Prop :=
  ∀ (s : State) (r next : Reception) (b : Byte) (parity stop bad : Bool) (taken : Reception → (Frame → Frame) → State),
    s.link.reception = some r →
    bad = !decide ((setCard b + if parity then 1 else 0) % 2 = 1 ∧ stop = true) →
    next =
      { r with
        count := r.count + 1, byteError := r.byteError || bad, gapTimer := some (s.now + 16 * s.link.byteNs) } →
    (∀ q f, taken q f = { s with link := { s.link with
      reception := some q
      frames :=
        if r.destination = .entry then s.link.frames.map fun e => if e.state = .receiving then f e else e
        else s.link.frames } }) →
    (r.count = 0 → exec (.linkByteReceived b parity stop) s =
      .next (taken { next with kind := some b } fun e => { e with kind := b })) ∧
    (r.count = 1 → exec (.linkByteReceived b parity stop) s =
      .next (taken { next with length := 256 * b.toNat } fun e => e)) ∧
    (r.count = 2 → r.length + b.toNat ≤ 4112 → exec (.linkByteReceived b parity stop) s =
      .next (taken { next with length := r.length + b.toNat } fun e => e)) ∧
    (3 ≤ r.count → r.count < r.length + 3 → exec (.linkByteReceived b parity stop) s =
      .next (taken next fun e => { e with body := e.body ++ [b] })) ∧
    (r.count = r.length + 3 → exec (.linkByteReceived b parity stop) s =
      .next (taken { next with checkHigh := b } fun e => e)) ∧
    ∀ kind : Byte, r.kind = some kind → r.count = r.length + 4 →
      exec (.linkByteReceived b parity stop) s =
        match r.destination with
        | .silent => .next { s with link := { s.link with reception := none } }
        | .nothing => .next (s.endedInError r .overrun)
        | .entry =>
          if r.byteError = true ∨ bad = true then .next (s.endedInError r .byte)
          else if frameCheck kind r.length s.receivingBody ≠ r.checkHigh ++ b then .next (s.endedInError r .check)
          else if kind ∉ [0x10, 0x20, 0x21, 0x30, 0x31, 0x40, 0x50, 0x5F] then .next (s.endedInError r .unknownKind)
          else .next { s with link := { s.link with
            reception := none
            frames := s.link.frames.map fun f => if f.state = .receiving then { f with state := .ready } else f } }

/-- A length above 4,112 ends the frame with OVERLENGTH at its second length byte, and sixteen byte-times without a byte end
it with TRUNCATED; a frame that a part reset left behind ends in silence (R164, R166, R167, R172). -/
def Obligations.FrameEndsBeforeItsCheck : Prop :=
  (∀ (s : State) (r : Reception) (b : Byte) (parity stop : Bool),
    s.link.reception = some r → r.count = 2 → 4112 < r.length + b.toNat →
    exec (.linkByteReceived b parity stop) s =
      if r.destination = .silent then .next { s with link := { s.link with reception := none } }
      else .next (s.endedInError r .overlength)) ∧
  ∀ (s : State) (r : Reception) (due : Nat), s.link.reception = some r → r.gapTimer = some due →
    exec .frameGapTimeout s =
      if r.destination = .silent then
        .next { s with now := max s.now due, link := { s.link with reception := none } }
      else .next (State.endedInError { s with now := max s.now due } r .truncated)

/-- A report begins when the transmit state is IDLE and RETURN HOLD is clear, is sent whole whatever RETURN HOLD does
meanwhile, and leaves the Report Queue at its end (R173, R175). Its frame has the envelope of R184 and the kind, the body
and the codes of R187, and each of its bytes goes out on LINK OUT as R162 gives it, at the strapped rate; after its last
byte the line rests. -/
def Obligations.ReportsAreSentWhole : Prop :=
  (∀ (s : State) (r : Report) (rest : List Report), s.link.transmit = .idle → s.reports = r :: rest →
    exec (.reportTransmitStart false) s =
        .next { s with link :=
          { s.link with returnHold := false, transmit := .sending, linkOut := frameBytes r.kind r.body } } ∧
      exec (.reportTransmitStart true) s = .next { s with link := { s.link with returnHold := true } }) ∧
  (∀ (s : State) (hold : Bool), s.link.transmit = .sending →
    exec (.reportTransmitStart hold) s = .next { s with link := { s.link with returnHold := hold } }) ∧
  (∀ s : State, s.link.transmit = .sending →
    exec .reportSent s =
      .next { s with reports := s.reports.tail, link := { s.link with transmit := .idle, linkOut := [] } }) ∧
  (∀ (l : LinkPort) (i : Nat) (b : Byte), l.linkOut[i]? = some b →
    l.outLevel (11 * i) = false ∧ (∀ k < 8, l.outLevel (11 * i + 1 + k) = b.getLsbD k) ∧
    (setCard b + if l.outLevel (11 * i + 9) then 1 else 0) % 2 = 1 ∧ l.outLevel (11 * i + 10) = true) ∧
  (∀ (l : LinkPort) (k : Nat), 11 * l.linkOut.length ≤ k → l.outLevel k = true) ∧
  (∀ l : LinkPort, l.byteNs =
    if l.strapB then (if l.strapA then 1375 else 2750) else if l.strapA then 5500 else 11000) ∧
  ∀ (one two three : Nat → List Byte) (yes : Bool → List Byte),
    (∀ n, one n = [BitVec.ofNat 8 n]) → (∀ n, two n = one (n / 256) ++ one n) →
    (∀ n, three n = one (n / 65536) ++ two n) → (∀ b, yes b = if b then [0x01] else [0x00]) →
    (∀ (kind high low : Byte) (body : List Byte), high ++ low = cyclicCheck ([kind] ++ two body.length ++ body) →
      frameBytes kind body = [0xC3, kind] ++ two body.length ++ body ++ [high, low]) ∧
    (∀ tag es ns, (Report.passOpened tag es ns).kind = 0x80 ∧ (Report.passOpened tag es ns).body =
      [tag] ++ one es.length ++
        es.flatMap (fun e => one e.channel ++ two e.copyNumber ++
          e.serial.elim [0x00] fun v => 0x01 :: (one v.length ++ v)) ++
        one ns.length ++ ns.flatMap (fun e => one e.channel ++ one e.reason.code)) ∧
    (∀ c, (Report.passClosed c).kind = 0x81 ∧ (Report.passClosed c).body =
      [c.tag] ++ one c.reason.code ++ one c.passed ++ one c.failed ++ two c.jobPassed ++
        c.quotaRemaining.elim [0x00] fun n => 0x01 :: two n) ∧
    (∀ r, (Report.copyResult r).kind = 0x90 ∧ (Report.copyResult r).body =
      one r.channel ++ two r.copyNumber ++ [r.passTag] ++ one r.outcome.code ++ two r.retriesUsed ++
        (r.reason.elim [0x00] fun x => 0x01 :: one x.code) ++ (r.failingTrack.elim [0x00] fun n => 0x01 :: one n) ++
        (r.leastGap.elim [0x00] fun n => 0x01 :: one n) ++
        (r.serial.elim [0x00] fun x => 0x01 :: (one x.1.length ++ x.1 ++ one x.2.code)) ++
        r.verifyDetail.elim [0x00] fun d => 0x01 :: (one d.count ++ [d.id] ++ one d.outcome.code)) ∧
    (∀ ch event, (Report.channelEvent ch event).kind = 0x91 ∧
      (Report.channelEvent ch event).body = one ch ++ one event.code) ∧
    (∀ p, (Report.partStatus p).kind = 0xA0 ∧ (Report.partStatus p).body =
      one p.passState.code ++ [p.tag] ++ yes p.closureHeld ++ yes p.jobPresent ++ two p.jobPassed ++ two p.nextCopy ++
        one p.inFlight ++ [p.enrolled] ++ two p.quota ++ one p.poolCount ++ one p.boundCount ++
        p.slots.flatMap (fun e => one e.state.code ++ (e.track.elim [0x00] fun n => 0x01 :: one n) ++ one e.present ++
          [e.claims]) ++
        one p.fillCursor ++ two p.receptionErrors ++ two p.staleSegments) ∧
    (∀ c r, c.settings = r → (Report.channelStatus c).kind = 0xA1 ∧ (Report.channelStatus c).body =
      one c.channel ++ one c.state.code ++ (c.cylinder.elim [0x00] fun n => 0x01 :: one n) ++
        (c.cursor.elim [0x00] fun n => 0x01 :: one n) ++ one c.activePrecomp ++
        (yes r.enabled ++ one (if r.driveType = .track80 then 0 else 1) ++ one r.stepRate ++ one r.settle ++
          yes r.autoRearm ++ one r.idleTimeout ++ one r.sortDelay ++ two r.sortWidth ++ one r.ejectTimeout ++
          yes r.autoPrecomp ++ one r.manualPrecomp ++ three r.periodMin ++ three r.periodMax ++ two r.pulseMin ++
          two r.pulseMax) ++
        yes c.pendingHeld ++ yes c.stable ++ (c.planning.elim [0x00] fun n => 0x01 :: three n) ++
        one c.history.length ++ c.history.flatMap three ++ (c.lastWidth.elim [0x00] fun n => 0x01 :: three n) ++
        one ((if c.periodShort then 1 else 0) + (if c.periodLong then 2 else 0) + (if c.pulseShort then 4 else 0) +
          if c.pulseLong then 8 else 0)) ∧
    (∀ reason kind, (Report.frameError reason kind).kind = 0xB0 ∧
      (Report.frameError reason kind).body = one reason.code ++ kind.elim [0x00] fun k => [0x01, k]) ∧
    (∀ table index reason accepted, (Report.tableError table index reason accepted).kind = 0xB1 ∧
      (Report.tableError table index reason accepted).body = [table] ++ one index ++ one reason.code ++ one accepted) ∧
    (∀ kind reason detail, (Report.commandRefused kind reason detail).kind = 0xB2 ∧
      (Report.commandRefused kind reason detail).body = [kind] ++ one reason.code ++ one detail) ∧
    (∀ tag track reason, (Report.segmentRefused tag track reason).kind = 0xB3 ∧
      (Report.segmentRefused tag track reason).body = [tag, track] ++ one reason.code) ∧
    (∀ n, (Report.poolLow n).kind = 0xC0 ∧ (Report.poolLow n).body = one n) ∧
    (∀ n m, (Report.resetDone n m).kind = 0xC1 ∧ (Report.resetDone n m).body = one n ++ one m) ∧
    [ChState.offline, .empty, .spinup, .ready, .stopped, .recalibrating, .seeking, .waitingTrack, .waitingIndex, .writing,
      .verifying, .reporting, .rejecting, .sorting, .unload, .jammed].map ChState.code = List.range 16 ∧
    [PassState.idle, .opened].map PassState.code = [0, 1] ∧
    [SlotState.free, .filling, .complete].map SlotState.code = [0, 1, 2] ∧
    [NotEnrolledReason.motorStopped, .quota, .driveType, .poolEmpty].map NotEnrolledReason.code = [1, 2, 3, 4] ∧
    [CloseReason.completed, .aborted, .starved].map CloseReason.code = [1, 2, 3] ∧
    [CopyOutcome.passed, .failed].map CopyOutcome.code = [1, 2] ∧
    [CopyReason.recalFailed, .overBudget, .truncatedWrite, .speedFault, .writeProtected, .verifyFailed, .noIndex,
      .mediaRemoved, .passAborted, .passStarved, .channelDisabled, .channelReset].map CopyReason.code =
        [1, 2, 3, 4, 5, 6, 7, 8, 9, 10, 11, 12] ∧
    [Disposition.issued, .reissued, .voided].map Disposition.code = [1, 2, 3] ∧
    [SectorOutcome.good, .noHeader, .dataCheck, .markKind, .mismatch].map SectorOutcome.code = [0, 1, 2, 3, 4] ∧
    [ChannelEvent.writeProtected, .spinFault, .jammed, .spindleStopped].map ChannelEvent.code = [1, 2, 3, 4] ∧
    [FrameErrorReason.overlength, .truncated, .byte, .check, .unknownKind, .overrun, .length].map FrameErrorReason.code =
      [1, 2, 3, 4, 5, 6, 7] ∧
    [TableErrorReason.mode, .index, .value, .inUse, .truncatedRecord, .poolFull].map TableErrorReason.code =
      [1, 2, 3, 4, 5, 6] ∧
    [RefusalReason.tagZero, .passBusy, .noJob, .layoutInvalid, .quotaMet, .patchOutsideLayout, .noPass, .tagMismatch,
      .channelRange, .value].map RefusalReason.code = [1, 2, 3, 4, 5, 6, 7, 8, 9, 10] ∧
    [SegmentReason.noImage, .length, .trackRange, .sectorRange, .stale, .outOfOrder, .predecessorIncomplete].map
      SegmentReason.code = [1, 2, 3, 4, 5, 6, 7]

/-- The check of R9: the register starts at 0xFFFF, and each bit that enters, the most significant of a byte first, shifts it
left and, where it differs from the register's top bit, combines it with the generator 0x1021. What it computes is a
division: the check of bytes followed by their own check, high byte first, is 0. -/
def Obligations.CheckLeavesNoRemainder : Prop :=
  cyclicCheck [] = 0xFFFF ∧
    (∀ (bytes : List Byte) (b : Byte), cyclicCheck (bytes ++ [b]) =
      [7, 6, 5, 4, 3, 2, 1, 0].foldl
        (fun (r : Check) k => if r.getLsbD 15 = b.getLsbD k then r <<< 1 else (r <<< 1) ^^^ 0x1021) (cyclicCheck bytes)) ∧
    ∀ (bytes : List Byte) (high low : Byte), high ++ low = cyclicCheck bytes →
      checkBytes (cyclicCheck bytes) = [high, low] ∧ cyclicCheck (bytes ++ [high, low]) = 0

/-- A frame whose body has the wrong length for its kind is answered with FRAME-ERROR LENGTH, by whichever command of its
kind takes it, and nothing else happens (R170, R185; log entry 15). -/
def Obligations.WrongLengthIsAnswered : Prop :=
  ∀ (s : State) (kind : Byte) (body : List Byte) (trackZero : ChannelSet), s.headIs kind body 1 →
    (kind = 0x20 ∧ body.length < 4 ∨ kind = 0x21 ∧ body.length ≠ 14 ∨ (kind = 0x30 ∨ kind = 0x31) ∧ body.length ≠ 1 ∨
      (kind = 0x40 ∨ kind = 0x50) ∧ body.length ≠ 2) →
    ∀ c ∈ commandsOf kind trackZero, exec c s = .next (s.answered [.frameError .length (some kind)])

/-- A head frame with too few free report entries waits, and so does the frame behind it: no command takes either. No
command takes a frame of another kind (R170, R171; log entry 7). PART-RESET is the exception (R172). -/
def Obligations.HeadFrameWaits : Prop :=
  (∀ (s : State) (f : Frame) (trackZero : ChannelSet), s.headFrame = some f → f.kind ≠ 0x5F →
    s.freeEntries < (if f.kind = 0x50 ∧ f.body.length = 2 then 1 + setCard (byteAt f.body 1) else 1) →
    ∀ c ∈ frameCommands trackZero, exec c s = .next s) ∧
  ∀ (s : State) (f : Frame) (trackZero : ChannelSet), s.headFrame = some f →
    ∀ c ∈ frameCommands trackZero, c ∉ commandsOf f.kind trackZero → exec c s = .next s

/-! ### The Track Store (chapter 2) -/

/-- A segment that does not carry the tag of an open pass is discarded and counted; one for a COMPLETE slot is discarded
and not counted; and one for the next track waits while every slot is COMPLETE (R21, R24, R27). -/
def Obligations.SegmentIsSetAsideOrWaits : Prop :=
  (∀ (s : State) (body : List Byte), s.headIs 0x10 body 1 →
    (s.passOpen = false ∨ body.head? ≠ some s.control.pass.tag) →
    exec .trackSegment s = .next { s with link :=
      { s.link with
        staleSegments := min 65535 (s.link.staleSegments + 1)
        frames := s.link.frames.eraseP Frame.isReady } }) ∧
  (∀ (s : State) (t k0 c : Byte) (data : List Byte) (i : Fin 8), SegmentChecked s t k0 c data →
    (∀ j : Fin 8, s.store.slots[j].track = some t.toNat ↔ j = i) → s.store.slots[i].state = .complete →
    exec .trackSegment s = .next (s.answered [])) ∧
  ∀ (s : State) (t k0 c : Byte) (data : List Byte), SegmentChecked s t k0 c data →
    t.toNat = s.store.fillCursor →
    (∀ j : Fin 8, s.store.slots[j].state = .complete ∧ s.store.slots[j].track ≠ some t.toNat) →
    exec .trackSegment s = .next s

/-- A segment of a format-only pass, or one that does not fit the layout in force, is refused: the first check that
applies gives the reason (R22, R23, R31). The report carries the track byte where the body holds one (R183; log entry
10). -/
def Obligations.SegmentOffTheLayoutIsRefused : Prop :=
  ∀ (s : State) (rest : List Byte), s.headIs 0x10 (s.control.pass.tag :: rest) 1 → s.passOpen = true →
    (s.formatOnly = true →
      exec .trackSegment s = .next (s.answered [.segmentRefused s.control.pass.tag (rest.headD 0) .noImage])) ∧
    (s.formatOnly = false → rest.length < 3 →
      exec .trackSegment s = .next (s.answered [.segmentRefused s.control.pass.tag (rest.headD 0) .length])) ∧
    ∀ (t k0 c : Byte) (data : List Byte), s.formatOnly = false → rest = t :: k0 :: c :: data →
      (s.layout.tracks ≤ t.toNat →
        exec .trackSegment s = .next (s.answered [.segmentRefused s.control.pass.tag t .trackRange])) ∧
      (t.toNat < s.layout.tracks → c = 0 ∨ s.layout.n < k0.toNat + c.toNat →
        exec .trackSegment s = .next (s.answered [.segmentRefused s.control.pass.tag t .sectorRange])) ∧
      (t.toNat < s.layout.tracks → c ≠ 0 → k0.toNat + c.toNat ≤ s.layout.n →
        data.length ≠ c.toNat * s.layout.size →
        exec .trackSegment s = .next (s.answered [.segmentRefused s.control.pass.tag t .length]))

/-- A segment for a track that no slot holds is refused STALE below the fill cursor, OUT-OF-ORDER above it, and
PREDECESSOR-INCOMPLETE at it while another track is filling (R25, R26). -/
def Obligations.SegmentOutOfPlaceIsRefused : Prop :=
  ∀ (s : State) (t k0 c : Byte) (data : List Byte), SegmentChecked s t k0 c data →
    (∀ j : Fin 8, s.store.slots[j].track ≠ some t.toNat) →
    (t.toNat < s.store.fillCursor →
      exec .trackSegment s = .next (s.answered [.segmentRefused s.control.pass.tag t .stale])) ∧
    (s.store.fillCursor < t.toNat →
      exec .trackSegment s = .next (s.answered [.segmentRefused s.control.pass.tag t .outOfOrder])) ∧
    (t.toNat = s.store.fillCursor → (∃ j : Fin 8, s.store.slots[j].state = .filling) →
      exec .trackSegment s = .next (s.answered [.segmentRefused s.control.pass.tag t .predecessorIncomplete]))

/-- A segment for the FILLING slot that holds its track is written there: its sectors replace what their places held, its
indexes join the present set, the slot completes when that is full, and a running starvation timer restarts (R24, R29
to R31). -/
def Obligations.SegmentFillsItsSlot : Prop :=
  ∀ (s : State) (t k0 c : Byte) (data : List Byte) (i : Fin 8), SegmentChecked s t k0 c data →
    (∀ j : Fin 8, s.store.slots[j].track = some t.toNat ↔ j = i) → s.store.slots[i].state = .filling →
    ∃ u, exec .trackSegment s = .next u ∧ SegmentTaken s u i s.store.slots[i] t.toNat k0.toNat c.toNat data ∧
      u.store.fillCursor = s.store.fillCursor

/-- A segment for the track at the fill cursor takes the lowest-numbered FREE slot while none is filling: the slot's present
set starts empty, its claim set is the live set, the fill cursor goes on by one, and the segment is written (R28). -/
def Obligations.SegmentTakesTheLowestFreeSlot : Prop :=
  ∀ (s : State) (t k0 c : Byte) (data : List Byte) (i : Fin 8), SegmentChecked s t k0 c data →
    t.toNat = s.store.fillCursor →
    (∀ j : Fin 8, s.store.slots[j].track ≠ some t.toNat ∧ s.store.slots[j].state ≠ .filling) →
    s.store.slots[i].state = .free → (∀ j : Fin 8, j < i → s.store.slots[j].state = .complete) →
    ∃ u, exec .trackSegment s = .next u ∧
      SegmentTaken s u i ⟨.filling, some t.toNat, 0, s.control.pass.live, s.store.slots[i].data⟩ t.toNat k0.toNat
        c.toNat data ∧
      u.store.fillCursor = s.store.fillCursor + 1

/-! ### The tables (chapter 8, with chapters 1, 4 and 7) -/

/-- The records and bodies of the formats are read back as they were sent: every layout, patch, settings record,
precompensation entry and job, with every field at every value its rule allows (R184 to R186, R2, R3, R41, R62, R136,
R156). -/
def Obligations.RecordsAreReadBackAsSent : Prop :=
  (∀ l : Layout, l.valid = true → readLayoutRecord l.encode = some (some l)) ∧
  (∀ p : Patch, p.valid = true → readPatchRecord p.encode = some (some p)) ∧
  (∀ r : Settings, r.inRange = true → readSettings r.encode = some r) ∧
  (∀ p : Precomp, p.boundary ≤ 255 → p.outer ≤ 15 → p.inner ≤ 15 → readPrecomp p.encode = some p) ∧
  ∀ (tables : Tables) (j : Job) (l : Layout), j.valid = true → tables.layouts[j.layoutIndex] = some l →
    (j.stepFactor = 2 → l.cylinders ≤ 42) → readJob tables j.encode = .ok j

/-- A run of LAYOUT records fills the entries from its start index on, each record making its entry IN-USE with its layout or
UNUSED, and changes nothing else. It stops with IN-USE at the layout of the open pass, with INDEX beyond the table, and
with TRUNCATED-RECORD or VALUE at a record that is cut short or means nothing; the records before stay (R1, R147 to
R150, R152). -/
def Obligations.LayoutRecordReplacesItsEntry : Prop :=
  ∀ (s : State) (start stop : Nat) (reason : TableErrorReason) (es : List (Option Layout))
    (fault : Option TableErrorReason),
    s.LoadCarries 0x01 Layout.Sent (fun r => 17 + 2 * num1 r 4) start es fault →
    (if s.passOpen = true ∧ start ≤ s.job.layoutIndex then stop = s.job.layoutIndex ∧ reason = .inUse
      else stop = 8 ∧ reason = .index) →
    ∃ tables, exec .layoutWrite s = .next
        { s.answered (loadReport 0x01 start es.length stop reason fault) with tables := tables } ∧
      tables.patches = s.tables.patches ∧ tables.precompD = s.tables.precompD ∧ tables.precompH = s.tables.precompH ∧
      ∀ k : Fin 8, tables.layouts[k] =
        if h : start ≤ k ∧ k - start < es.length ∧ k < stop then es[k - start] else s.tables.layouts[k]

/-- A LAYOUT record beyond the table, for the layout in use by the open pass, cut short, or with a field out of range or a
code that names no value stops its load and changes nothing: the first that applies gives the reason (R2, R3, R147 to
R150, R152, R186). -/
def Obligations.LayoutRecordIsRefused : Prop :=
  (∀ (s : State) (start count : Nat) (records : List Byte),
    s.headIs 0x20 (tableLoadBody 0x01 0x01 start count records) 1 → 8 ≤ start → start ≤ 255 → 1 ≤ count → count ≤ 255 →
    exec .layoutWrite s = .next (s.answered [.tableError 0x01 start .index 0])) ∧
  ∀ (s : State) (i : Fin 8) (count : Nat) (records : List Byte),
    s.headIs 0x20 (tableLoadBody 0x01 0x01 i count records) 1 → 1 ≤ count → count ≤ 255 →
    (s.passOpen = true → s.job.layoutIndex = i →
      exec .layoutWrite s = .next (s.answered [.tableError 0x01 i .inUse 0])) ∧
    (¬(s.passOpen = true ∧ s.job.layoutIndex = i) →
      (records.length < 5 ∨ records.length < 17 + 2 * num1 records 4 →
        exec .layoutWrite s = .next (s.answered [.tableError 0x01 i .truncatedRecord 0])) ∧
      (∀ (l : Layout) (rest : List Byte), l.codable = true → l.valid = false → records = l.encode ++ rest →
        exec .layoutWrite s = .next (s.answered [.tableError 0x01 i .value 0])) ∧
      (17 + 2 * num1 records 4 ≤ records.length →
        1 < num1 records 0 ∨ num1 records 0 = 0 ∧ (1 < num1 records 1 ∨ 2 < num1 records 16 ∨
          ∃ k < num1 records 4, 1 < num1 records (18 + 2 * k)) →
        exec .layoutWrite s = .next (s.answered [.tableError 0x01 i .value 0])))

/-- With no pass open a run of PATCH records fills the entries from its start index on, in the order of the frame, each
record making its entry IN-USE or UNUSED. It stops with INDEX at the end of the table, and with TRUNCATED-RECORD or
VALUE at a record that is cut short or means nothing; the records before stay (R147 to R149, R153). -/
def Obligations.PatchRunFillsItsEntries : Prop :=
  ∀ (s : State) (start : Nat) (es : List (Option Patch)) (fault : Option TableErrorReason),
    s.LoadCarries 0x02 Patch.Sent (fun _ => 26) start es fault → s.passOpen = false →
    ∃ tables, exec .patchWrite s = .next
        { s.answered (loadReport 0x02 start es.length 32 .index fault) with tables := tables } ∧
      tables.layouts = s.tables.layouts ∧ tables.precompD = s.tables.precompD ∧ tables.precompH = s.tables.precompH ∧
      ∀ k : Fin 32, tables.patches[k] =
        if h : start ≤ k ∧ k - start < es.length then es[k - start] else s.tables.patches[k]

/-- A PATCH record that says UNUSED empties its entry, one with a field out of range, a code that names no value or a source
and form that are no pair is refused VALUE, and CLEAR empties the table; while a pass is open every PATCH load is refused
IN-USE (R136, R137, R146, R150, R153, R154, R186). -/
def Obligations.PatchTableIsClearedOrRefused : Prop :=
  (∀ (s : State) (i : Fin 32) (record : List Byte), s.headIs 0x20 (tableLoadBody 0x02 0x01 i 1 record) 1 →
    s.passOpen = false →
    (record.head? = some 0x00 → record.length = 26 →
      exec .patchWrite s = .next
        { s.answered [] with tables := { s.tables with patches := s.tables.patches.set i none } }) ∧
    (∀ p : Patch, p.codable = true → p.valid = false → record = p.encode →
      exec .patchWrite s = .next (s.answered [.tableError 0x02 i .value 0])) ∧
    (26 ≤ record.length →
      1 < num1 record 0 ∨ num1 record 0 = 1 ∧ (3 < num1 record 8 ∨
        ¬(num1 record 6 ∈ [0, 3] ∧ num1 record 7 = 0 ∨ num1 record 6 ∈ [1, 2] ∧ num1 record 7 ∈ [1, 2, 3])) →
      exec .patchWrite s = .next (s.answered [.tableError 0x02 i .value 0]))) ∧
  (∀ (s : State) (start count : Nat) (records : List Byte),
    s.headIs 0x20 (tableLoadBody 0x02 0x03 start count records) 1 → s.passOpen = false →
    exec .patchClear s = .next
      { s.answered [] with tables := { s.tables with patches := Vector.replicate 32 none } }) ∧
  ∀ (s : State) (start count : Nat) (records : List Byte), s.passOpen = true → start ≤ 255 →
    (s.headIs 0x20 (tableLoadBody 0x02 0x01 start count records) 1 →
      exec .patchWrite s = .next (s.answered [.tableError 0x02 start .inUse 0])) ∧
    (s.headIs 0x20 (tableLoadBody 0x02 0x03 start count records) 1 →
      exec .patchClear s = .next (s.answered [.tableError 0x02 start .inUse 0]))

/-- The serial records of an APPEND join the queue at the tail in the order of the frame, until the queue and the bound
records hold 64 together; the record that meets the full pool stops the load with POOL-FULL (R125 to R127, R155). -/
def Obligations.PoolAppendJoinsTheTail : Prop :=
  ∀ (s : State) (start : Nat) (vs : List Serial),
    s.headIs 0x20 (tableLoadBody 0x03 0x02 start vs.length (vs.flatMap Serial.record)) 1 → vs.length ≤ 255 →
    (∀ v ∈ vs, 1 ≤ v.length ∧ v.length ≤ 16) → s.pool.length + s.boundCount ≤ 64 →
    exec .poolAppend s = .next
      { s.answered (if vs.length ≤ 64 - (s.pool.length + s.boundCount) then []
          else [.tableError 0x03 (64 - (s.pool.length + s.boundCount)) .poolFull
            (64 - (s.pool.length + s.boundCount))]) with
        pool := s.pool ++ vs.take (64 - (s.pool.length + s.boundCount)) }

/-- A serial record of length 0 or above 16 is refused VALUE, also where its bytes are cut short, and a whole frame's end
inside a record of 1 to 16 is TRUNCATED-RECORD (R127, R148, R155). CLEAR empties the queue, pass or no pass, and touches
no bound record (R128). -/
def Obligations.PoolRecordIsRefusedAndPoolCleared : Prop :=
  (∀ (s : State) (start count : Nat) (records : List Byte),
    s.headIs 0x20 (tableLoadBody 0x03 0x02 start count records) 1 → 1 ≤ count → count ≤ 255 →
    (records = [] → exec .poolAppend s = .next (s.answered [.tableError 0x03 0 .truncatedRecord 0])) ∧
    ∀ (len : Byte) (value : List Byte), records = len :: value →
      (len = 0 ∨ 16 < len.toNat → exec .poolAppend s = .next (s.answered [.tableError 0x03 0 .value 0])) ∧
      (1 ≤ len.toNat → len.toNat ≤ 16 → value.length < len.toNat →
        exec .poolAppend s = .next (s.answered [.tableError 0x03 0 .truncatedRecord 0]))) ∧
  ∀ (s : State) (start count : Nat) (records : List Byte),
    s.headIs 0x20 (tableLoadBody 0x03 0x03 start count records) 1 →
    exec .poolClear s = .next { s.answered [] with pool := [] }

/-- A run of PRECOMP records replaces the held values of density D at index 0 and of density H at index 1, and no channel's
active value; an outer or inner value above 15 is refused VALUE, a record cut short TRUNCATED-RECORD, and an index above 1
INDEX (R147 to R149, R156). -/
def Obligations.PrecompRecordChangesHeldValues : Prop :=
  (∀ (s : State) (start : Nat) (ps : List Precomp) (fault : Option TableErrorReason),
    s.LoadCarries 0x04 Precomp.Sent (fun _ => 3) start ps fault →
    exec .precompWrite s = .next
      { s.answered (loadReport 0x04 start ps.length 2 .index fault) with
        tables :=
          { s.tables with
            precompD := if start = 0 then ps[0]?.getD s.tables.precompD else s.tables.precompD
            precompH := if start ≤ 1 then ps[1 - start]?.getD s.tables.precompH else s.tables.precompH } }) ∧
  ∀ (s : State) (start : Nat) (p : Precomp), s.headIs 0x20 (tableLoadBody 0x04 0x01 start 1 p.encode) 1 →
    p.boundary ≤ 255 → p.outer ≤ 255 → p.inner ≤ 255 → start ≤ 255 →
    exec .precompWrite s =
      if 2 ≤ start then .next (s.answered [.tableError 0x04 start .index 0])
      else if 15 < p.outer ∨ 15 < p.inner then .next (s.answered [.tableError 0x04 start .value 0])
      else if start = 0 then .next { s.answered [] with tables := { s.tables with precompD := p } }
      else .next { s.answered [] with tables := { s.tables with precompH := p } }

/-- A run of CHANNEL records is placed channel by channel from its start index on, the timing fields clamped: pending while
the channel is in a copy state, and else active at once, where a change of enabled acts as an ENABLE or a DISABLE would
(R63, R157, R158). The run stops with INDEX above channel 7, with TRUNCATED-RECORD at a record that is cut short, and
with VALUE at one that R157 does not allow: a code that names no value, a manual value above 15, or limits above
1,048,575 or not in order (R147 to R149, R186). -/
def Obligations.ChannelRecordIsPlaced : Prop :=
  (∀ (s : State) (start : Nat) (es : List Settings) (fault : Option TableErrorReason),
    s.LoadCarries 0x05 Settings.Sent (fun _ => 22) start es fault →
    ∃ channels, exec .channelWrite s = .next
        { s.answered (loadReport 0x05 start es.length 8 .index fault) with channels := channels } ∧
      ∀ k : ChannelNo, channels[k] =
        if h : start ≤ k ∧ k - start < es.length then (s.chan k).placed es[k - start] s.now else s.chan k) ∧
  ∀ (s : State) (ch : ChannelNo) (count : Nat) (r : List Byte),
    s.headIs 0x20 (tableLoadBody 0x05 0x01 ch count r) 1 → 1 ≤ count → count ≤ 255 → 22 ≤ r.length →
    1 < num1 r 0 ∨ 1 < num1 r 1 ∨ 1 < num1 r 4 ∨ 1 < num1 r 10 ∨ 15 < num1 r 11 ∨ 1048575 < num3 r 12 ∨
      1048575 < num3 r 15 ∨ num3 r 15 ≤ num3 r 12 ∨ num2 r 20 ≤ num2 r 18 →
    exec .channelWrite s = .next (s.answered [.tableError 0x05 ch .value 0])

/-- A TABLE-LOAD whose table field names no table is stopped with VALUE, and one with a mode its table does not take with
MODE, before any record; the index is the start index, or 0 for a POOL load (R146, R149). -/
def Obligations.UnknownLoadsAreRefused : Prop :=
  ∀ (s : State) (table mode start count : Byte) (records : List Byte),
    s.headIs 0x20 (table :: mode :: start :: count :: records) 1 →
    (table ∉ [0x01, 0x02, 0x03, 0x04, 0x05] →
      exec .tableLoadRefused s = .next (s.answered [.tableError table start.toNat .value 0])) ∧
    (table ∈ [0x01, 0x04, 0x05] ∧ mode ≠ 0x01 ∨ table = 0x02 ∧ mode ≠ 0x01 ∧ mode ≠ 0x03 →
      exec .tableLoadRefused s = .next (s.answered [.tableError table start.toNat .mode 0])) ∧
    (table = 0x03 → mode ≠ 0x02 → mode ≠ 0x03 →
      exec .tableLoadRefused s = .next (s.answered [.tableError table 0 .mode 0]))

/-! ### The job and the pass (chapter 3) -/

/-- A JOB-SET replaces the job whole, with its clamps, and sets the job passed count to 0 and the copy-number counter to 1
(R43); it is refused, the first check that applies giving the reason, with a pass open or a closure report held, with
a code that names no value, or with a layout that cannot be used (R42). -/
def Obligations.JobSetIsTakenOrRefused : Prop :=
  (∀ (s : State) (j : Job) (l : Layout), s.headIs 0x21 j.encode 1 → s.passOpen = false →
    s.control.pass.closure = none → s.tables.layouts[j.layoutIndex] = some l →
    (j.stepFactor = 1 ∨ j.stepFactor = 2 ∧ l.cylinders ≤ 42) →
    j.retryLimit ≤ 255 → j.quota ≤ 65535 → j.writeDelay ≤ 65535 → j.starvationTimeout ≤ 255 → j.poolLowMark ≤ 255 →
    exec .jobSet s = .next
      { s.answered [] with
        control :=
          { s.control with
            job := some
              { j with
                retryLimit := min 7 j.retryLimit
                writeDelay := min 2000 j.writeDelay
                starvationTimeout := max 1 j.starvationTimeout
                poolLowMark := min 63 j.poolLowMark }
            jobPassed := 0
            copyNumber := 1 } }) ∧
  ∀ (s : State) (body : List Byte), s.headIs 0x21 body 1 → body.length = 14 →
    (s.passOpen = true ∨ s.control.pass.closure ≠ none →
      exec .jobSet s = .next (s.answered [.commandRefused 0x21 .passBusy 0])) ∧
    (s.passOpen = false → s.control.pass.closure = none →
      (1 < num1 body 1 ∨ 1 < num1 body 4 →
        exec .jobSet s = .next (s.answered [.commandRefused 0x21 .value 0])) ∧
      (num1 body 1 ≤ 1 → num1 body 4 ≤ 1 →
        (7 < num1 body 0 ∨ s.tables.layouts[num1 body 0]? = some none ∨ num1 body 2 ∉ [1, 2] ∨
          num1 body 2 = 2 ∧ ∃ l, s.tables.layouts[num1 body 0]? = some (some l) ∧ 42 < l.cylinders) →
        exec .jobSet s = .next (s.answered [.commandRefused 0x21 .layoutInvalid 0])))

/-- A PASS-BEGIN is refused by the first condition that applies, and a refusal changes no state (R5, R46, R145). -/
def Obligations.PassBeginIsRefusedInOrder : Prop :=
  ∀ (s : State) (tag : Byte) (trackZero : ChannelSet), s.headIs 0x30 [tag] 1 →
    (tag = 0 → exec (.passBegin trackZero) s = .next (s.answered [.commandRefused 0x30 .tagZero 0])) ∧
    (tag ≠ 0 → s.passOpen = true ∨ s.control.pass.closure ≠ none →
      exec (.passBegin trackZero) s = .next (s.answered [.commandRefused 0x30 .passBusy 0])) ∧
    (tag ≠ 0 → s.passOpen = false → s.control.pass.closure = none →
      (s.control.job = none → exec (.passBegin trackZero) s = .next (s.answered [.commandRefused 0x30 .noJob 0])) ∧
      ∀ j : Job, s.control.job = some j →
        (s.tables.layouts[j.layoutIndex] = none →
          exec (.passBegin trackZero) s = .next (s.answered [.commandRefused 0x30 .layoutInvalid 0])) ∧
        ∀ l : Layout, s.tables.layouts[j.layoutIndex] = some l →
          (j.stepFactor = 2 → 42 < l.cylinders →
            exec (.passBegin trackZero) s = .next (s.answered [.commandRefused 0x30 .layoutInvalid 0])) ∧
          ((j.stepFactor = 2 → l.cylinders ≤ 42) →
            (j.quota ≠ 0 → s.control.jobPassed = j.quota →
              exec (.passBegin trackZero) s = .next (s.answered [.commandRefused 0x30 .quotaMet 0])) ∧
            ((j.quota = 0 ∨ s.control.jobPassed ≠ j.quota) →
              ∀ (i : Fin 32) (p : Patch), s.tables.patches[i] = some p →
                ¬(p.track < l.tracks ∧ p.sector ∈ l.sectors.map (·.id) ∧ p.offset + p.length ≤ l.size) →
                (∀ k : Fin 32, k < i → ∀ q, s.tables.patches[k] = some q →
                  q.track < l.tracks ∧ q.sector ∈ l.sectors.map (·.id) ∧ q.offset + q.length ≤ l.size) →
                exec (.passBegin trackZero) s =
                  .next (s.answered [.commandRefused 0x30 .patchOutsideLayout i]))))

/-- A PASS-BEGIN that passes every check opens the pass and enrolls, in ascending order, the READY channels whose drives
reach the layout, as many as the quota and the pool allow; each takes the next copy number and, if the job needs
serials, the next record of the pool, and begins to recalibrate. The others that are READY or STOPPED are listed with
the first reason that applies, and a STOPPED one spins up. With none enrolled the pass closes again, its close reason
absent (R45, R47 to R49, R70, R129, R134, R181; log entry 11). DIRECTION outward, also for a drive that stands at track
zero and seeks no step, is R70's with the model's choice of log entry 12. -/
def Obligations.PassBeginEnrollsInOrder : Prop :=
  ∀ (s : State) (tag : Byte) (trackZero : ChannelSet) (j : Job) (l : Layout) (serials : Bool)
    (fits chosen : List ChannelNo) (number : Nat → Nat) (serial : Nat → Option Serial),
    s.headIs 0x30 [tag] 1 → PassMayBegin s tag j l → 1 ≤ s.control.copyNumber → s.control.copyNumber ≤ 65535 →
    serials = s.tables.patches.toList.any (fun e => e.any fun p => p.source == .serial) →
    fits = channelsUp.filter (fun ch => (s.chan ch).state == .ready &&
      decide ((l.cylinders - 1) * j.stepFactor ≤
        match (s.chan ch).active.driveType with
        | .track80 => 83
        | .track40 => 41)) →
    chosen = fits.take (min (if j.quota = 0 then 8 else j.quota - s.control.jobPassed)
      (if serials then s.pool.length else 8)) →
    (∀ k, number k = (s.control.copyNumber - 1 + k) % 65535 + 1) →
    (∀ k, serial k = if serials then s.pool[k]? else none) →
    ∃ t, exec (.passBegin trackZero) s = .next t ∧
      (∀ ch : ChannelNo, setHas t.control.pass.live ch = decide (ch ∈ chosen) ∧
        setHas t.control.pass.enrolled ch = decide (ch ∈ chosen)) ∧
      t.control =
        { s.control with
          copyNumber := number chosen.length
          pass :=
            { state := if chosen = [] then .idle else .opened, tag := tag
              live := t.control.pass.live, enrolled := t.control.pass.enrolled
              passed := 0, failed := 0, closeReason := none, closure := none } } ∧
      t.pool = (if serials then s.pool.drop chosen.length else s.pool) ∧
      t.reports = s.reports ++
        [.passOpened tag (chosen.mapIdx fun k ch => ⟨ch, number k, serial k⟩)
          (channelsUp.filterMap fun ch =>
            if (s.chan ch).state = .stopped then some ⟨ch, .motorStopped⟩
            else if (s.chan ch).state = .ready ∧ ch ∉ chosen then
              some ⟨ch,
                if j.quota ≠ 0 ∧ j.quota ≤ s.control.jobPassed + (chosen.filter (· < ch)).length then .quota
                else if ch ∉ fits then .driveType else .poolEmpty⟩
            else none)] ++
        (if serials = true ∧ j.poolLowMark < s.pool.length ∧ s.pool.length - chosen.length ≤ j.poolLowMark ∧
          s.reports.length + 2 ≤ 32 then [.poolLow j.poolLowMark] else []) ∧
      (∀ (k : Nat) (ch : ChannelNo), chosen[k]? = some ch → t.chan ch =
        { s.chan ch with
          copy := some
            { passTag := tag, copyNumber := number k, serial := serial k, disposition := none, retriesUsed := 0
              leastGap := none, outcome := .undecided, reason := none, failingTrack := none, verifyDetail := none
              sort := none }
          cursor := some 0
          attempts := 0
          idleTimer := none
          state := if setHas trackZero ch then .seeking else .recalibrating
          cylinder := if setHas trackZero ch then some 0 else none
          recalSteps := if setHas trackZero ch then 0 else 1
          stepTimer :=
            if setHas trackZero ch then none else some (s.now + (s.chan ch).active.stepRate * 1000000)
          settleTimer :=
            if setHas trackZero ch then some (s.now + (s.chan ch).active.settle * 1000000)
            else (s.chan ch).settleTimer
          lines :=
            { (s.chan ch).lines with
              trackZero := setHas trackZero ch
              density := l.density
              direction := .outward
              steps := (s.chan ch).lines.steps + if setHas trackZero ch then 0 else 1
              headSelect := if setHas trackZero ch then 0 else (s.chan ch).lines.headSelect } }) ∧
      (∀ ch : ChannelNo, ch ∉ chosen → t.chan ch =
        if (s.chan ch).state = .stopped then
          { s.chan ch with
            state := .spinup
            idleTimer := none
            spinUpTimer := some (s.now + 4000000000)
            monitor := (s.chan ch).monitor.started s.now (s.chan ch).active.periodMax
            lines := { (s.chan ch).lines with trackZero := setHas trackZero ch } }
        else { s.chan ch with lines := { (s.chan ch).lines with trackZero := setHas trackZero ch } }) ∧
      t.store = { s.store with fillCursor := 0 } ∧ t.tables = s.tables ∧ t.link = (s.answered []).link ∧
      t.now = s.now ∧ t.pending = s.pending

/-- A PASS-ABORT with the tag of the open pass fails every live copy with PASS-ABORTED in one event, and the expiry of the
starvation timer fails them with PASS-STARVED; the serial records return in descending channel number, and the pass
closes (R52, R54, R57, R130, R131). The model's choices: the channels keep their attempt counts (PassEnded; log entry 13),
and the failing track is absent in RECALIBRATING (log entry 9). -/
def Obligations.AbortEndsEveryLiveCopy : Prop :=
  (∀ s : State, s.headIs 0x31 [s.control.pass.tag] 1 → s.passOpen = true →
    ∃ t, exec .passAbort s = .next (t.answered []) ∧ PassEnded s t .passAborted .aborted) ∧
  ∀ (s : State) (due : Nat), s.control.starvation = some due →
    ∃ t, exec .starvationTimeout s = .next t ∧ PassEnded { s with now := max s.now due } t .passStarved .starved

/-- A PASS-ABORT is refused NO-PASS with no pass open and TAG-MISMATCH with another tag; a CHANNEL-CONTROL is refused
CHANNEL-RANGE for a channel above 7, and else VALUE for an action that is none (R54, R86). -/
def Obligations.CommandsAreRefused : Prop :=
  (∀ (s : State) (tag : Byte), s.headIs 0x31 [tag] 1 →
    (s.passOpen = false → exec .passAbort s = .next (s.answered [.commandRefused 0x31 .noPass 0])) ∧
    (s.passOpen = true → tag ≠ s.control.pass.tag →
      exec .passAbort s = .next (s.answered [.commandRefused 0x31 .tagMismatch 0]))) ∧
  ∀ (s : State) (channel action : Byte), s.headIs 0x40 [channel, action] 1 →
    (8 ≤ channel.toNat →
      exec .channelControlRefused s = .next (s.answered [.commandRefused 0x40 .channelRange 0])) ∧
    (channel.toNat < 8 → action ∉ [0x01, 0x02, 0x03] →
      exec .channelControlRefused s = .next (s.answered [.commandRefused 0x40 .value 0]))

/-- The held closure report is placed as PASS-CLOSED when the enrolled set is empty and an entry is free, and not before
(R53). -/
def Obligations.PassClosedIsPlacedLast : Prop :=
  ∀ (s : State) (c : Closure), s.control.pass.closure = some c →
    exec .passClosedPlaced s =
      if s.control.pass.enrolled = 0 ∧ s.reports.length < 32 then
        .next { s with
          reports := s.reports ++ [.passClosed c]
          control := { s.control with pass := { s.control.pass with closure := none } } }
      else .next s

/-! ### The control of the channels, status and resets (chapters 4, 9 and 10) -/

/-- ENABLE sets enabled in the active and the pending record; an OFFLINE channel goes to EMPTY, and on to SPINUP with its
motor if media is present, and a channel in any other state stays (R66, R86). -/
def Obligations.EnableActsByState : Prop :=
  ∀ (s : State) (ch : ChannelNo) (c : Channel), s.headIs 0x40 [BitVec.ofNat 8 ch, 0x01] 1 →
    c = { s.chan ch with
      active := { (s.chan ch).active with enabled := true }
      pendingRecord := (s.chan ch).pendingRecord.map fun r => { r with enabled := true } } →
    exec .channelEnable s = .next ((s.answered []).setChan ch
      (if c.state ≠ .offline then c
      else if c.lines.mediaPresent then
        { c with
          state := .spinup, idleTimer := none, spinUpTimer := some (s.now + 4000000000)
          monitor := c.monitor.started s.now c.active.periodMax }
      else { c with state := .empty, idleTimer := none, spinUpTimer := none }))

/-- DISABLE clears enabled in the active and the pending record; in EMPTY, SPINUP, READY and STOPPED the motor goes off and
the channel goes OFFLINE, and a copy in progress fails with CHANNEL-DISABLED and sort REJECT (R87). That the channel keeps
its attempt count at the end of its copy is the model's choice (CopyEnded; log entry 13). -/
def Obligations.DisableActsByState : Prop :=
  ∀ (s : State) (ch : ChannelNo) (c : Channel), s.headIs 0x40 [BitVec.ofNat 8 ch, 0x02] 1 →
    c = { s.chan ch with
      active := { (s.chan ch).active with enabled := false }
      pendingRecord := (s.chan ch).pendingRecord.map fun r => { r with enabled := false } } →
    (c.state ∈ [.empty, .spinup, .ready, .stopped] →
      exec .channelDisable s = .next ((s.answered []).setChan ch
        { c with
          state := .offline, idleTimer := none, spinUpTimer := none
          monitor := if c.state.motor then c.monitor.stopped else c.monitor })) ∧
    (c.state ∈ [.offline, .reporting, .rejecting, .sorting, .unload, .jammed] →
      exec .channelDisable s = .next ((s.answered []).setChan ch c)) ∧
    ∀ r : CopyRecord, c.state.isCopy = true → c.copy = some r →
      ∃ t, exec .channelDisable s = .next (t.answered []) ∧
        CopyEnded (s.setChan ch c) t ch (.failed .channelDisabled (some .reject))


/-- RESET fails a copy in progress with CHANNEL-RESET and sort NONE, gives a copy in REPORTING sort NONE, and clears the
channel; in REPORTING and REJECTING the channel then waits with reset held yes, and in any other state it goes at once
where the enabled field and the media line lead it (R88, R100). -/
def Obligations.ChannelResetActsByState : Prop :=
  ∀ (s : State) (ch : ChannelNo) (w : Channel), s.headIs 0x40 [BitVec.ofNat 8 ch, 0x03] 1 →
    w = (s.chan ch).wiped s.now →
    ((s.chan ch).state = .reporting →
      exec .channelReset s = .next ((s.answered []).setChan ch
        { w with resetHeld := true, copy := w.copy.map fun r => { r with sort := none } })) ∧
    ((s.chan ch).state = .rejecting →
      exec .channelReset s = .next ((s.answered []).setChan ch { w with resetHeld := true })) ∧
    ((s.chan ch).state ∈ [.offline, .empty, .spinup, .ready, .stopped, .sorting, .unload, .jammed] →
      exec .channelReset s = .next ((s.answered []).setChan ch (w.resumed s.now))) ∧
    ((s.chan ch).state.isCopy = true →
      ∃ t, CopyEnded s t ch (.failed .channelReset none) ∧
        exec .channelReset s =
          .next ((t.answered []).setChan ch { (t.chan ch).wiped s.now with resetHeld := true }))

/-- A STATUS-QUERY is answered from the state at its taking: PART-STATUS if its part flag is set, then a CHANNEL-STATUS for
each channel of its set in ascending number. PART-STATUS clears the two counters, and CHANNEL-STATUS the channel's four
flags; nothing else changes. A query of nothing is refused VALUE (R40, R101, R177 to R179). -/
def Obligations.StatusQueryReportsAndClears : Prop :=
  (∀ s : State, s.headIs 0x50 [0x00, 0x00] 1 →
    exec .statusQuery s = .next (s.answered [.commandRefused 0x50 .value 0])) ∧
  ∀ (s : State) (part : Byte) (set : ChannelSet), s.headIs 0x50 [part, set] (1 + setCard set) → part ≠ 0 ∨ set ≠ 0 →
    ∃ t, exec .statusQuery s = .next t ∧
      t.reports = s.reports ++
        (if part = 0 then [] else
          [.partStatus
            { passState := s.control.pass.state, tag := s.control.pass.tag
              closureHeld := s.control.pass.closure.isSome, jobPresent := s.control.job.isSome
              jobPassed := s.control.jobPassed, nextCopy := s.control.copyNumber
              inFlight := setCard s.control.pass.live, enrolled := s.control.pass.enrolled
              quota := match s.control.job with
                | some j => j.quota
                | none => 0
              poolCount := s.pool.length
              boundCount := (channelsUp.filter fun ch => (s.chan ch).bound.isSome).length
              slots := channelsUp.map fun i =>
                ⟨s.store.slots[i].state, s.store.slots[i].track, setCard s.store.slots[i].present,
                  s.store.slots[i].claims⟩
              fillCursor := s.store.fillCursor
              receptionErrors := s.link.receptionErrors, staleSegments := s.link.staleSegments }]) ++
        (channelsUp.filter fun ch => setHas set ch.val).map (fun ch =>
          .channelStatus
            { channel := ch, state := (s.chan ch).state, cylinder := (s.chan ch).cylinder
              cursor := (s.chan ch).cursor, activePrecomp := (s.chan ch).activePrecomp
              settings := (s.chan ch).active, pendingHeld := (s.chan ch).pendingRecord.isSome
              stable := (s.chan ch).monitor.count == 3
              planning := match (s.chan ch).monitor.history with
                | p :: q :: r :: _ => some (min p (min q r))
                | _ => none
              history := (s.chan ch).monitor.history, lastWidth := (s.chan ch).monitor.lastWidth
              periodShort := (s.chan ch).monitor.periodShort, periodLong := (s.chan ch).monitor.periodLong
              pulseShort := (s.chan ch).monitor.pulseShort, pulseLong := (s.chan ch).monitor.pulseLong }) ∧
      t.link =
        { (s.answered []).link with
          receptionErrors := if part = 0 then s.link.receptionErrors else 0
          staleSegments := if part = 0 then s.link.staleSegments else 0 } ∧
      (∀ ch : ChannelNo, t.chan ch =
        if setHas set ch then
          { s.chan ch with
            monitor :=
              { (s.chan ch).monitor with
                periodShort := false, periodLong := false, pulseShort := false, pulseLong := false } }
        else s.chan ch) ∧
      t.pending = s.pending ∧ t.now = s.now ∧ t.tables = s.tables ∧ t.pool = s.pool ∧ t.control = s.control ∧
      t.store = s.store

/-- A PART-RESET at the head, or behind a head frame that waits, resets the Link Port, the Pass Controller, the Track Store
and every channel, returns the bound serials to the head of the pool, channel 0's first, and is answered with
RESET-DONE; the tables and the data areas stay (R38, R59, R89, R132, R160, R172). -/
def Obligations.PartResetResetsEveryBlock : Prop :=
  ∀ (s : State) (f : Frame) (rest : List Frame) (bound : List Serial),
    s.link.frames.filter Frame.isReady = f :: rest →
    f.kind = 0x5F ∨ s.HeldUp f ∧ (∃ g, rest.head? = some g ∧ g.kind = 0x5F) →
    bound = channelsUp.filterMap (fun ch => (s.chan ch).bound) →
    ∃ t, exec .partReset s = .next t ∧
      t.reports = (if s.link.transmit = .sending then s.reports.take 1 else []) ++
        [.resetDone (setCard s.control.pass.enrolled) bound.length] ∧
      t.pool = bound ++ s.pool ∧ t.control = State.reset.control ∧
      t.link =
        { s.link with
          frames := []
          reception := s.link.reception.map fun r => { r with destination := .silent }
          receptionErrors := 0, staleSegments := 0 } ∧
      t.store.fillCursor = 0 ∧ SameData s t ∧
      (∀ i : Fin 8, t.store.slots[i].state = .free ∧ t.store.slots[i].track = none ∧
        t.store.slots[i].present = 0 ∧ t.store.slots[i].claims = 0) ∧
      (∀ (ch : ChannelNo) (w : Channel), w = (s.chan ch).wiped s.now →
        t.chan ch =
          Channel.resumed
            { w with
              copy := none, held := [], cursor := none, attempt := none
              lines := { w.lines with writeGate := false, writeData := [] } } s.now) ∧
      t.tables = s.tables ∧ t.now = s.now ∧ t.pending = s.pending

/-- A power-on reset puts every block at its power-on value and samples the straps; the bytes of the data areas stay, and
the levels of the input lines, the clock and the waiting commands are not the part's (R39, R59, R89, R132, R160, R174,
R189; log entry 19). -/
def Obligations.PowerOnResetSetsEveryBlock : Prop :=
  ∀ (s : State) (a b : Bool), ∃ t, exec (.powerOnReset a b) s = .next t ∧
    t.link = { State.reset.link with strapA := a, strapB := b, returnHold := s.link.returnHold } ∧
    t.tables = State.reset.tables ∧ t.pool = [] ∧ t.control = State.reset.control ∧ t.reports = [] ∧
    t.store.fillCursor = 0 ∧ SameData s t ∧
    (∀ i : Fin 8, t.store.slots[i].state = .free ∧ t.store.slots[i].track = none ∧
      t.store.slots[i].present = 0 ∧ t.store.slots[i].claims = 0) ∧
    (∀ ch : ChannelNo, t.chan ch =
      { State.reset.chan ch with
        lines :=
          { mediaPresent := (s.chan ch).lines.mediaPresent, trackZero := (s.chan ch).lines.trackZero
            writeProtect := (s.chan ch).lines.writeProtect, index := (s.chan ch).lines.index
            steps := 0, direction := .outward, headSelect := 0, density := .d
            writeGate := false, writeData := [], accept := false, reject := false } }) ∧
    t.now = s.now ∧ t.pending = s.pending

/-! ### The channels' events (chapters 4 and 5) -/

/-- A channel places the oldest report of its list when an entry is free. A COPY-RESULT placed in REPORTING takes the channel
out of the enrolled set, discards the copy record, and leads it to SORTING with the copy's sort, to re-arm without a
strobe, or on by R88; the event of REJECTING leads to SORTING with REJECT, to re-arm, or on by R88. JAMMED and
SPINDLE-STOPPED lead nowhere (R51, R80 to R82, R88). -/
def Obligations.HeldReportMovesTheChannelOn : Prop :=
  ∀ (s : State) (ch : ChannelNo) (protect : Bool),
    ((s.chan ch).held = [] ∨ 32 ≤ s.reports.length → exec (.heldReportPlaced ch protect) s = .next s) ∧
    ∀ (r : Report) (rest : List Report) (c d : Channel), (s.chan ch).held = r :: rest → s.reports.length < 32 →
      c = { s.chan ch with held := rest, lines := { (s.chan ch).lines with writeProtect := protect } } →
      d = { c with copy := none } →
      (r = .channelEvent ch .jammed ∨ r = .channelEvent ch .spindleStopped →
        exec (.heldReportPlaced ch protect) s =
          .next (State.setChan { s with reports := s.reports ++ [r] } ch c)) ∧
      (∀ q : CopyResult, r = .copyResult q → c.state = .reporting →
        exec (.heldReportPlaced ch protect) s =
          .next (State.setChan
            { s with
              reports := s.reports ++ [r]
              control :=
                { s.control with
                  pass := { s.control.pass with enrolled := setDrop s.control.pass.enrolled ch } } } ch
            (if c.resetHeld then d.released ch s.now
              else
                match c.copy.bind (·.sort) with
                | some sort => if c.lines.mediaPresent then d.sorted sort s.now else d.rearmed s.now
                | none => d.rearmed s.now))) ∧
      (r = .channelEvent ch .writeProtected ∨ r = .channelEvent ch .spinFault → c.state = .rejecting →
        exec (.heldReportPlaced ch protect) s =
          .next (State.setChan { s with reports := s.reports ++ [r] } ch
            (if c.resetHeld then c.released ch s.now
              else if c.lines.mediaPresent then c.sorted .reject s.now else c.rearmed s.now)))

/-- The media-present line acts by the channel's state: present starts an EMPTY channel; absent empties SPINUP, READY and
STOPPED, fails a copy with MEDIA-REMOVED, abandons a sort delay, is noted during a strobe, and re-arms UNLOAD and JAMMED
(the table of R79, with R66, R83 to R85). That the channel keeps its attempt count at the end of its copy is the model's
choice (CopyEnded; log entry 13). -/
def Obligations.MediaLineActsByState : Prop :=
  (∀ (s : State) (ch : ChannelNo) (c : Channel),
    c = { s.chan ch with lines := { (s.chan ch).lines with mediaPresent := true } } →
    exec (.mediaPresent ch) s = .next (s.setChan ch
      (if c.state = .empty then
        { c with
          state := .spinup, idleTimer := none, spinUpTimer := some (s.now + 4000000000)
          monitor := c.monitor.started s.now c.active.periodMax }
      else c))) ∧
  ∀ (s : State) (ch : ChannelNo) (c : Channel),
    c = { s.chan ch with lines := { (s.chan ch).lines with mediaPresent := false } } →
    (c.state ∈ [.offline, .empty, .reporting, .rejecting] →
      exec (.mediaAbsent ch) s = .next (s.setChan ch c)) ∧
    (c.state ∈ [.spinup, .ready, .stopped] →
      exec (.mediaAbsent ch) s = .next (s.setChan ch
        { c with
          state := .empty, spinUpTimer := none, idleTimer := none
          monitor := if c.state.motor then c.monitor.stopped else c.monitor })) ∧
    (c.state.isCopy = true →
      ∃ t, exec (.mediaAbsent ch) s = .next t ∧ CopyEnded (s.setChan ch c) t ch (.failed .mediaRemoved none)) ∧
    (c.state = .sorting → c.lines.accept = true ∨ c.lines.reject = true →
      exec (.mediaAbsent ch) s = .next (s.setChan ch { c with removalNoted := true })) ∧
    (c.state = .sorting → c.lines.accept = false → c.lines.reject = false →
      exec (.mediaAbsent ch) s = .next (s.setChan ch (c.rearmed s.now))) ∧
    (c.state = .unload ∨ c.state = .jammed → exec (.mediaAbsent ch) s = .next (s.setChan ch (c.rearmed s.now)))

/-- A running Index Monitor measures a leading edge in every state of the channel: the period since the last edge joins the
history, raises the in-limit count or sets it to 0, and latches a flag if it is out of limit; the edge times and the
index timer begin anew (R90, R92, R94). It measures the pulse at the trailing edge (R93). One that does not run measures
nothing. The limits are compared with the period as it is held (log entry 8). -/
def Obligations.EdgesAreMeasured : Prop :=
  (∀ (s : State) (ch : ChannelNo) (t : Nat) (protect : Bool) (m : Monitor) (r : Settings) (period : Option Nat),
    m = (s.chan ch).monitor → r = (s.chan ch).active → m.running = true →
    period = m.lastEdge.map (fun e => min 1048575 ((t - e) / 1000)) →
    ∃ u, exec (.indexLeadingEdge ch t protect) s = .next u ∧ u.now = max s.now t ∧ (u.chan ch).monitor =
      { running := true
        lastEdge := some t
        pulseStart := some t
        history := (period.toList ++ m.history).take (if period = none then m.history.length else 4)
        lastWidth := m.lastWidth
        count :=
          match period with
          | some p => if r.periodMin ≤ p ∧ p ≤ r.periodMax then min 3 (m.count + 1) else 0
          | none => m.count
        periodShort := m.periodShort || period.any (fun p => decide (p < r.periodMin))
        periodLong := m.periodLong || period.any (fun p => decide (r.periodMax < p))
        pulseShort := m.pulseShort
        pulseLong := m.pulseLong
        indexTimer := some (max s.now t + 2 * r.periodMax * 1000) }) ∧
  (∀ (s : State) (ch : ChannelNo) (t : Nat) (protect : Bool), (s.chan ch).monitor.running = false →
    exec (.indexLeadingEdge ch t protect) s = .next (State.setChan { s with now := max s.now t } ch
      { s.chan ch with lines := { (s.chan ch).lines with index := true, writeProtect := protect } })) ∧
  ∀ (s : State) (ch : ChannelNo) (t : Nat) (m : Monitor), m = (s.chan ch).monitor →
    exec (.indexTrailingEdge ch t) s = .next (State.setChan { s with now := max s.now t } ch
      { s.chan ch with
        lines := { (s.chan ch).lines with index := false }
        monitor :=
          match m.running, m.pulseStart with
          | true, some e =>
            { m with
              pulseStart := none
              lastWidth := some (min 1048575 ((t - e) / 1000))
              pulseShort := m.pulseShort || decide (min 1048575 ((t - e) / 1000) < (s.chan ch).active.pulseMin)
              pulseLong := m.pulseLong || decide ((s.chan ch).active.pulseMax < min 1048575 ((t - e) / 1000)) }
          | _, _ => m })

/-- When no edge has come for twice period max, PERIOD-LONG is latched and the qualification begins anew; a copy fails with
NO-INDEX, and a READY channel that was STABLE goes back to SPINUP (R77, R97; log entry 7). That the channel keeps its
attempt count at the end of its copy is the model's choice (CopyEnded; log entry 13). -/
def Obligations.IndexTimeoutActsByState : Prop :=
  (∀ (s : State) (ch : ChannelNo), (s.chan ch).monitor.running = false → exec (.indexTimeout ch) s = .next s) ∧
  ∀ (s u : State) (ch : ChannelNo) (due : Nat), (s.chan ch).monitor.running = true →
    (s.chan ch).monitor.indexTimer = some due →
    u = State.setChan { s with now := max s.now due } ch
      { s.chan ch with
        monitor :=
          { (s.chan ch).monitor with
            periodLong := true, history := [], count := 0, lastEdge := none, pulseStart := none
            indexTimer := some (max s.now due + 2 * (s.chan ch).active.periodMax * 1000) } } →
    ((s.chan ch).state.isCopy = true →
      ∃ t, exec (.indexTimeout ch) s = .next t ∧ CopyEnded u t ch (.failed .noIndex (some .reject))) ∧
    ((s.chan ch).state = .ready → (s.chan ch).monitor.count = 3 →
      exec (.indexTimeout ch) s = .next (u.setChan ch
        { u.chan ch with state := .spinup, idleTimer := none, spinUpTimer := some (u.now + 4000000000) })) ∧
    ((s.chan ch).state.isCopy = false → ¬((s.chan ch).state = .ready ∧ (s.chan ch).monitor.count = 3) →
      exec (.indexTimeout ch) s = .next u)

/-- What a leading edge does in the states where no attempt turns on it: STABLE reached in SPINUP leads to READY, or to
REJECTING where the media is protected; STABLE lost in READY leads back to SPINUP; in a copy state the recovery timer
stops or starts; in REPORTING and REJECTING the edge is only measured (R67, R68, R76, R95). -/
def Obligations.EdgeQualifiesTheDrive : Prop :=
  ∀ (s u : State) (ch : ChannelNo) (t : Nat) (protect : Bool), (s.chan ch).monitor.running = true →
    u = s.edgeSeen ch t protect →
    ((s.chan ch).state = .spinup →
      exec (.indexLeadingEdge ch t protect) s = .next (
        if (s.chan ch).monitor.count ≠ 3 ∧ (u.chan ch).monitor.count = 3 then
          u.setChan ch
            (if protect then
              { u.chan ch with
                state := .rejecting, spinUpTimer := none
                held := (u.chan ch).held ++ [.channelEvent ch .writeProtected] }
            else
              { u.chan ch with
                state := .ready, spinUpTimer := none
                idleTimer :=
                  if (u.chan ch).active.idleTimeout = 0 then none
                  else some (u.now + (u.chan ch).active.idleTimeout * 1000000000) })
        else u)) ∧
    ((s.chan ch).state = .ready →
      exec (.indexLeadingEdge ch t protect) s = .next (
        if (s.chan ch).monitor.count = 3 ∧ (u.chan ch).monitor.count ≠ 3 then
          u.setChan ch
            { u.chan ch with state := .spinup, idleTimer := none, spinUpTimer := some (u.now + 4000000000) }
        else u)) ∧
    ((s.chan ch).state ∈ [.recalibrating, .seeking, .waitingTrack] ∨
        (s.chan ch).state = .waitingIndex ∧ (u.chan ch).monitor.count ≠ 3 →
      exec (.indexLeadingEdge ch t protect) s = .next (s.recoverySeen ch t protect)) ∧
    ((s.chan ch).state ∈ [.reporting, .rejecting] → exec (.indexLeadingEdge ch t protect) s = .next u)

/-- A recalibration looks at TRACK ZERO after each step: it seeks the cursor's track when the line shows track zero, fails
RECAL-FAILED after the 90th step, and steps again else. A seek steps towards its cylinder and settles there. The settle
loads the precompensation, sets the attempt count to 0 and leaves the channel waiting for its track, or for the index if
that is ready (R56, R58, R70 to R73). The model's choices: DIRECTION keeps its level where the seek of track 0 has no
step to give (seekBegun; log entry 12), and the channel keeps its attempt count where the copy fails (CopyEnded; log
entry 13). -/
def Obligations.StepsAndSettle : Prop :=
  (∀ (s u : State) (ch : ChannelNo) (due track : Nat) (zero : Bool), (s.chan ch).state = .recalibrating →
    (s.chan ch).stepTimer = some due → (s.chan ch).cursor = some track →
    u = State.setChan { s with now := max s.now due } ch
      { s.chan ch with lines := { (s.chan ch).lines with trackZero := zero } } →
    (zero = true →
      exec (.recalStepInterval ch zero) s = .next (u.setChan ch
        (Channel.seekBegun { u.chan ch with cylinder := some 0 } (track / s.layout.heads * s.job.stepFactor)
          (track % s.layout.heads) u.now))) ∧
    (zero = false → 90 ≤ (s.chan ch).recalSteps →
      ∃ t, exec (.recalStepInterval ch zero) s = .next t ∧
        CopyEnded u t ch (.failed .recalFailed (some .reject))) ∧
    (zero = false → (s.chan ch).recalSteps < 90 →
      exec (.recalStepInterval ch zero) s = .next (u.setChan ch
        { u.chan ch with
          recalSteps := (s.chan ch).recalSteps + 1
          stepTimer := some (u.now + (s.chan ch).active.stepRate * 1000000)
          lines := { (u.chan ch).lines with steps := (s.chan ch).lines.steps + 1 } }))) ∧
  (∀ (s u : State) (ch : ChannelNo) (due track : Nat), (s.chan ch).state = .seeking →
    (s.chan ch).stepTimer = some due → (s.chan ch).cursor = some track → u = { s with now := max s.now due } →
    exec (.seekStepInterval ch) s = .next (u.setChan ch
      ((s.chan ch).stepped (track / s.layout.heads * s.job.stepFactor) (track % s.layout.heads) u.now))) ∧
  ∀ (s u : State) (ch : ChannelNo) (due track cylinder : Nat) (p : Precomp), (s.chan ch).state = .seeking →
    (s.chan ch).settleTimer = some due → (s.chan ch).cursor = some track → (s.chan ch).cylinder = some cylinder →
    p = (match s.layout.density with
      | .d => s.tables.precompD
      | .h => s.tables.precompH) →
    u = State.setChan { s with now := max s.now due } ch
      { s.chan ch with
        state :=
          if s.job.source = .fill ∨ ∃ i : Fin 8, s.store.slots[i].state = .complete ∧ s.store.slots[i].track = some track
          then .waitingIndex else .waitingTrack
        settleTimer := none
        attempts := 0
        activePrecomp :=
          if (s.chan ch).active.autoPrecomp then (if cylinder < p.boundary then p.outer else p.inner)
          else (s.chan ch).active.manualPrecomp } →
    exec (.settleEnd ch) s = .next
      { u with
        control :=
          { u.control with
            starvation :=
              if u.starving then
                some (s.control.starvation.getD (u.now + s.job.starvationTimeout * 1000000000))
              else none } }

/-- What the channel's timers do when they expire, in the states they belong to: SPIN-FAULT, SPINDLE-STOPPED, SPEED-FAULT,
the strobe, UNLOAD or re-arm at its end, and JAMMED (R67, R68, R76, R83, R84). The model's choices: the failing track of a
SPEED-FAULT in RECALIBRATING is absent, as section 4.1 and section 10.4 have it, where R76 says the cursor (log entry 9);
and the channel keeps its attempt count at the end of its copy (CopyEnded; log entry 13). -/
def Obligations.ChannelTimersExpire : Prop :=
  ∀ (s u : State) (ch : ChannelNo) (c : Channel) (due : Nat), c = s.chan ch → u = { s with now := max s.now due } →
    (c.state = .spinup → c.spinUpTimer = some due →
      exec (.spinUpTimeout ch) s = .next (u.setChan ch
        { c with state := .rejecting, spinUpTimer := none, held := c.held ++ [.channelEvent ch .spinFault] })) ∧
    (c.state = .ready → c.idleTimer = some due →
      exec (.idleTimeout ch) s = .next (u.setChan ch
        { c with
          state := .stopped, spinUpTimer := none, idleTimer := none, monitor := c.monitor.stopped
          held :=
            if .channelEvent ch .spindleStopped ∈ c.held then c.held
            else c.held ++ [.channelEvent ch .spindleStopped] })) ∧
    (c.state.isCopy = true → c.recoveryTimer = some due →
      ∃ t, exec (.recoveryTimeout ch) s = .next t ∧ CopyEnded u t ch (.failed .speedFault (some .reject))) ∧
    (c.state = .sorting → c.sortTimer = some due → c.lines.accept = false → c.lines.reject = false →
      exec (.sortDelayEnd ch) s = .next (u.setChan ch
        { c with
          sortTimer := some (u.now + c.active.sortWidth * 1000000)
          lines :=
            { c.lines with
              accept := decide (c.strobeSort = some .accept), reject := decide (c.strobeSort = some .reject) } })) ∧
    (c.state = .sorting → c.sortTimer = some due → c.lines.accept = true ∨ c.lines.reject = true →
      exec (.strobeEnd ch) s = .next (u.setChan ch
        (if c.removalNoted then c.rearmed u.now
        else
          { c with
            state := .unload, sortTimer := none, strobeSort := none
            ejectTimer := some (u.now + c.active.ejectTimeout * 1000000000)
            lines := { c.lines with accept := false, reject := false } }))) ∧
    (c.state = .unload → c.ejectTimer = some due →
      exec (.ejectTimeout ch) s = .next (u.setChan ch
        { c with
          state := .jammed, ejectTimer := none
          held :=
            if .channelEvent ch .jammed ∈ c.held then c.held else c.held ++ [.channelEvent ch .jammed] }))

/-! ### The revolutions and the track (chapters 1, 6 and 7) -/

/-- The revolution budget, stage by stage, with the tail it plans; and the track that it plans, as the writer lays it
down, is F + n × g bytes long (R8, R10, R12). -/
def Obligations.BudgetPlansTheTrack : Prop :=
  (∀ (l : Layout) (p d a f : Nat),
    a = (if p ≤ d then 0 else (p - d) * (if l.density = .d then 31250 else 62500) / 1000000 - l.spliceGuard) →
    f = l.leadIn + l.n * (2 * l.syncRun + l.gapA + 16 + 128 * 2 ^ l.sizeCode) →
    (l.budget p d =
      if (a : Int) - f - l.tailMin < 0 then none
      else if min l.gapB ((a - f - l.tailMin) / l.n) < l.gapBMin then none
      else some (min l.gapB ((a - f - l.tailMin) / l.n))) ∧
    ∀ g, l.tailPlanned p d g = a - f - l.n * g) ∧
  (∀ (l : Layout) (p d g : Nat), l.budget p d = some g →
    l.gapBMin ≤ g ∧ g ≤ l.gapB ∧ l.fixed + l.n * g + l.tailMin ≤ l.available p d) ∧
  ∀ (s : State) (ch : ChannelNo) (source : Source) (track g : Nat),
    (s.trackSymbols ch source track g).length = s.layout.fixed + s.layout.n * g

/-- A data byte goes to the drive as the image gives it, changed by the entries whose field covers it, in ascending entry
number: `v k` is what the entries below `k` have made of it (R4, R138 to R143). -/
def Obligations.PatchesActInOrder : Prop :=
  ∀ (s : State) (ch : ChannelNo) (source : Source) (track : Nat) (id : Byte) (pos : Nat) (copy : CopyRecord)
    (serial : Serial) (v : Nat → Byte),
    pos < s.layout.size → (s.chan ch).copy = some copy → serial = copy.serial.getD [] →
    v 0 = (match source with
      | .slot i => memRead s.store.slots[i].data (s.layout.indexOf id * s.layout.size + pos)
      | .fill => s.layout.fill) →
    (∀ k : Fin 32, v (k + 1) =
      match s.tables.patches[k] with
      | none => v k
      | some p =>
        if p.track = track ∧ p.sector = id ∧ p.offset ≤ pos ∧ pos < p.offset + p.length then
          let place := p.length - 1 - (pos - p.offset)
          let number : NumberForm → Nat → Byte := fun form n =>
            match form with
            | .binaryHighFirst => BitVec.ofNat 8 (n / 256 ^ place)
            | .binaryLowFirst => BitVec.ofNat 8 (n / 256 ^ (pos - p.offset))
            | .decimalText => BitVec.ofNat 8 (0x30 + n / 10 ^ place % 10)
          let b : Byte :=
            match p.source with
            | .serial => serial.getD (pos - p.offset) s.job.pad
            | .constant => p.constant.getD (pos - p.offset) 0
            | .copyNumber form => number form copy.copyNumber
            | .channelNumber form => number form ch
          let f : Byte :=
            match p.function with
            | .replace => b
            | .and => v k &&& b
            | .or => v k ||| b
            | .xor => v k ^^^ b
          (f &&& p.mask) ||| (v k &&& ~~~p.mask)
        else v k) →
    (s.sectorData ch source track id)[pos]? = some (v 32)

/-- A leading edge at which STABLE is yes begins an attempt in WAITING-INDEX: the budget of the planning period is over, and
the attempt has failed; or it fits with a gap, which may lower the copy's least gap, and the write revolution begins. A
write start delay of 0 is over at the edge itself (R11, R13, R15, R96, R102 to R104; log entry 14). The model's choices:
the outcome list is empty until the verify revolution (log entry 25), and the channel keeps its attempt count where the
copy fails (AttemptLost; log entry 13). -/
def Obligations.EdgeBeginsAnAttempt : Prop :=
  ∀ (s u : State) (ch : ChannelNo) (t track p q r : Nat) (more : List Nat) (protect : Bool) (source : Source),
    (s.chan ch).monitor.running = true → (s.chan ch).state = .waitingIndex → u = s.recoverySeen ch t protect →
    (u.chan ch).monitor.count = 3 → (u.chan ch).monitor.history = p :: q :: r :: more →
    (s.chan ch).cursor = some track →
    (s.job.source = .fill ∧ source = .fill ∨
      s.job.source = .stream ∧ ∃ i : Fin 8, source = .slot i ∧ s.store.slots[i].state = .complete ∧
        s.store.slots[i].track = some track ∧
        ∀ j : Fin 8, j < i → ¬(s.store.slots[j].state = .complete ∧ s.store.slots[j].track = some track)) →
    (s.layout.budget (min p (min q r)) s.job.writeDelay = none →
      ∃ v, exec (.indexLeadingEdge ch t protect) s = .next v ∧ AttemptLost u v ch .overBudget none) ∧
    ∀ (g : Nat) (a : Attempt) (w : State), s.layout.budget (min p (min q r)) s.job.writeDelay = some g →
      a =
        { source := source, track := track, gap := g
          order := (s.layout.sectors.rotateLeft (track * s.layout.skew % s.layout.n)).map (·.id)
          phase := .delay, startEdge := t, writeBegan := none, writeEnded := none, lastCheck := false, outcomes := []
          search := .discarding } →
      w = u.setChan ch
        { u.chan ch with
          state := .writing
          attempt := some a
          copy := (u.chan ch).copy.map fun r => { r with leastGap := some (min (r.leastGap.getD g) g) } } →
      (0 < s.job.writeDelay → exec (.indexLeadingEdge ch t protect) s = .next w) ∧
      (s.job.writeDelay = 0 → protect = false →
        exec (.indexLeadingEdge ch t protect) s = .next (w.setChan ch
          { w.chan ch with
            attempt := some { a with phase := .write, writeBegan := some t }
            lines :=
              { (w.chan ch).lines with writeGate := true, writeData := s.trackSymbols ch source track g } })) ∧
      (s.job.writeDelay = 0 → protect = true →
        ∃ v, exec (.indexLeadingEdge ch t protect) s = .next v ∧ AttemptLost w v ch .protect none)

/-- At the write start WRITE PROTECT is sampled: the attempt fails PROTECTED, or WRITE GATE goes on and the track is laid
down, element by element as R8 and R10 give it; the write position is 0 before it and counts the bytes from it on. The
last data check ends F + (n − 1) × g byte-times after the write start. WRITE PROTECT asserted during the write fails the
attempt, and at any other time it only sets the line (R102, R104 to R106, R116). That the channel keeps its attempt count
where the copy fails is the model's choice (AttemptLost; log entry 13). -/
def Obligations.WriteStartLaysDownTheTrack : Prop :=
  (∀ (s : State) (ch : ChannelNo), (s.chan ch).state ≠ .writing →
    exec (.writeProtectAsserted ch) s =
      .next (s.setChan ch { s.chan ch with lines := { (s.chan ch).lines with writeProtect := true } })) ∧
  ∀ (s : State) (ch : ChannelNo) (a : Attempt) (c : Channel) (l : Layout), c = s.chan ch → l = s.layout →
    c.state = .writing → c.attempt = some a →
    (a.writeBegan = none → s.writePosition ch = some 0) ∧
    (∀ began : Nat, a.writeBegan = some began → a.writeEnded = none →
      s.writePosition ch = some ((s.now - began) / if l.density = .d then 32000 else 16000)) ∧
    (∀ began : Nat, a.phase = .delay → began = a.startEdge + s.job.writeDelay * 1000 →
      exec (.writeStart ch false) s = .next (State.setChan { s with now := max s.now began } ch
        { c with
          attempt := some { a with phase := .write, writeBegan := some began }
          lines :=
            { c.lines with
              writeProtect := false
              writeGate := true
              writeData := List.replicate l.leadIn (.byte l.fill) ++
                (l.sectors.rotateLeft (a.track * l.skew % l.n)).flatMap fun e =>
                  let header : List Byte :=
                    [BitVec.ofNat 8 (a.track / l.heads), BitVec.ofNat 8 (a.track % l.heads), e.id,
                      BitVec.ofNat 8 l.sizeCode]
                  let code : Byte := if e.kind = .normal then 0x6B else 0x6C
                  let data := s.sectorData ch a.source a.track e.id
                  List.replicate l.syncRun (.byte 0x00) ++ [.sync, .sync, .sync, .byte 0x5A] ++
                    header.map .byte ++
                    (checkBytes (cyclicCheck ([0xB5, 0xB5, 0xB5, 0x5A] ++ header))).map .byte ++
                    List.replicate l.gapA (.byte l.fill) ++
                    List.replicate l.syncRun (.byte 0x00) ++ [.sync, .sync, .sync, .byte code] ++
                    data.map .byte ++
                    (checkBytes (cyclicCheck ([0xB5, 0xB5, 0xB5, code] ++ data))).map .byte ++
                    List.replicate a.gap (.byte l.fill) } }) ∧
      ∃ v, exec (.writeStart ch true) s = .next v ∧
        AttemptLost
          (State.setChan { s with now := max s.now began } ch { c with lines := { c.lines with writeProtect := true } })
          v ch .protect none) ∧
    (∀ began count : Nat, a.phase = .write → a.writeBegan = some began →
      count = l.leadIn + l.n * (2 * l.syncRun + l.gapA + 16 + 128 * 2 ^ l.sizeCode) + (l.n - 1) * a.gap →
      exec (.lastCheckWritten ch) s = .next (State.setChan
        { s with now := max s.now (began + count * if l.density = .d then 32000 else 16000) } ch
        { c with attempt := some { a with lastCheck := true } })) ∧
    (a.phase = .write →
      ∃ v, exec (.writeProtectAsserted ch) s = .next v ∧
        AttemptLost (s.setChan ch { c with lines := { c.lines with writeProtect := true } }) v ch .protect none) ∧
    (a.phase = .delay →
      exec (.writeProtectAsserted ch) s =
        .next (s.setChan ch { c with lines := { c.lines with writeProtect := true } }))

/-- The leading edge that ends a write revolution drops WRITE GATE and judges the revolution in this order: STABLE lost,
kind SPEED; the last check not written, kind TRUNCATED; verify level NONE, the track is finished; else the verify
revolution begins, every sector NO-HEADER, and the write position stays where it is (R14, R74, R99, R102, R107, R108; log
entry 14). The model's choices: DIRECTION keeps its level in a seek of no steps (TrackFinished, seekBegun; log entry 12),
and the channel keeps its attempt count at the end of its copy (CopyEnded; log entry 13). -/
def Obligations.EdgeEndsTheWrite : Prop :=
  ∀ (s u : State) (ch : ChannelNo) (t : Nat) (protect : Bool) (a : Attempt), (s.chan ch).monitor.running = true →
    (s.chan ch).state = .writing → (s.chan ch).attempt = some a →
    u = (s.recoverySeen ch t protect).gateOff ch →
    ((u.chan ch).monitor.count ≠ 3 →
      ∃ v, exec (.indexLeadingEdge ch t protect) s = .next v ∧ AttemptLost u v ch .speed none) ∧
    ((u.chan ch).monitor.count = 3 → a.lastCheck = false →
      ∃ v, exec (.indexLeadingEdge ch t protect) s = .next v ∧ AttemptLost u v ch .truncated none) ∧
    ((u.chan ch).monitor.count = 3 → a.lastCheck = true → s.layout.verify = .off →
      ∃ v, exec (.indexLeadingEdge ch t protect) s = .next v ∧ TrackFinished u v ch a) ∧
    ((u.chan ch).monitor.count = 3 → a.lastCheck = true → s.layout.verify ≠ .off →
      ∃ v, exec (.indexLeadingEdge ch t protect) s = .next v ∧
        v = u.setChan ch
          { u.chan ch with
            state := .verifying
            attempt := some
              { a with
                phase := .read, startEdge := t, writeEnded := some u.now
                outcomes := a.order.map fun id => ⟨id, .noHeader, false⟩
                search := if s.job.writeDelay = 0 then .searching else .discarding } } ∧
        ∀ began later : Nat, a.writeBegan = some began →
          State.writePosition { v with now := later } ch =
            some ((u.now - began) / if s.layout.density = .d then 32000 else 16000))

/-- The leading edge that ends a verify revolution judges it: STABLE lost, kind SPEED; every sector GOOD, the track is
finished; else kind VERIFY, with the number of sectors not GOOD and the first of them. A sector whose data field was
being read is DATA-CHECK (R99, R113 to R115). The model's choices: DIRECTION keeps its level in a seek of no steps
(TrackFinished, seekBegun; log entry 12), and the channel keeps its attempt count at the end of its copy (CopyEnded; log
entry 13). -/
def Obligations.EdgeEndsTheVerify : Prop :=
  ∀ (s u : State) (ch : ChannelNo) (t : Nat) (protect : Bool) (a : Attempt) (outcomes : List SectorResult),
    (s.chan ch).monitor.running = true → (s.chan ch).state = .verifying → (s.chan ch).attempt = some a →
    u = s.recoverySeen ch t protect →
    outcomes = (match a.search with
      | .awaiting i => a.outcomes.modify i fun r => { r with outcome := .dataCheck }
      | .discarding | .searching => a.outcomes) →
    ((u.chan ch).monitor.count ≠ 3 →
      ∃ v, exec (.indexLeadingEdge ch t protect) s = .next v ∧ AttemptLost u v ch .speed none) ∧
    ((u.chan ch).monitor.count = 3 → (∀ r ∈ outcomes, r.outcome = .good) →
      ∃ v, exec (.indexLeadingEdge ch t protect) s = .next v ∧ TrackFinished u v ch a) ∧
    ∀ (before after : List SectorResult) (bad : SectorResult), (u.chan ch).monitor.count = 3 →
      outcomes = before ++ bad :: after → (∀ r ∈ before, r.outcome = .good) → bad.outcome ≠ .good →
      ∃ v, exec (.indexLeadingEdge ch t protect) s = .next v ∧
        AttemptLost u v ch .verify
          (some ⟨1 + (after.filter fun r => decide (r.outcome ≠ .good)).length, bad.id, bad.outcome⟩)

/-- The verifier's search: what comes in the delay is discarded; a header whose check is right and which names a sector of
the track not yet matched has that sector's data field awaited; the data field gives the sector its outcome, the first
row of R111 that applies (R108 to R112). A field cut short leaves its sector awaited (log entry 21). -/
def Obligations.MarksGiveTheOutcomes : Prop :=
  ∀ (s : State) (ch : ChannelNo) (a : Attempt) (with_ : Attempt → State), (s.chan ch).state = .verifying →
    (s.chan ch).attempt = some a → a.phase = .read →
    (∀ b, with_ b = s.setChan ch { s.chan ch with attempt := some b }) →
    (a.search = .discarding →
      exec (.verifyDelayEnd ch) s = .next
        { with_ { a with search := .searching } with
          now := max s.now (a.startEdge + s.job.writeDelay * 1000) } ∧
      (∀ c h i z check, exec (.headerMarkRead ch c h i z check) s = .next s) ∧
      ∀ code bytes, exec (.dataFieldRead ch code bytes) s = .next s) ∧
    (∀ (c h i z : Byte) (check : Check) (outcomes : List SectorResult), a.search ≠ .discarding →
      outcomes = (match a.search with
        | .awaiting k => a.outcomes.modify k fun r => { r with outcome := .dataCheck }
        | .discarding | .searching => a.outcomes) →
      (check ≠ cyclicCheck [0xB5, 0xB5, 0xB5, 0x5A, c, h, i, z] ∨
          (∀ r ∈ outcomes, r.matched = true ∨ [c, h, i, z] ≠
            [BitVec.ofNat 8 (a.track / s.layout.heads), BitVec.ofNat 8 (a.track % s.layout.heads), r.id,
              BitVec.ofNat 8 s.layout.sizeCode]) →
        exec (.headerMarkRead ch c h i z check) s =
          .next (with_ { a with outcomes := outcomes, search := .searching })) ∧
      ∀ (before after : List SectorResult) (r : SectorResult),
        check = cyclicCheck [0xB5, 0xB5, 0xB5, 0x5A, c, h, i, z] → outcomes = before ++ r :: after →
        (∀ b ∈ before, b.matched = true ∨ b.id ≠ i) → r.matched = false →
        [c, h, i, z] =
          [BitVec.ofNat 8 (a.track / s.layout.heads), BitVec.ofNat 8 (a.track % s.layout.heads), r.id,
            BitVec.ofNat 8 s.layout.sizeCode] →
        exec (.headerMarkRead ch c h i z check) s =
          .next (with_
            { a with
              outcomes := before ++ { r with matched := true } :: after
              search := .awaiting before.length })) ∧
    (a.search = .searching → ∀ code bytes, exec (.dataFieldRead ch code bytes) s = .next s) ∧
    ∀ (before after : List SectorResult) (r : SectorResult) (code : Byte), a.search = .awaiting before.length →
      a.outcomes = before ++ r :: after →
      (∀ bytes, bytes.length < 128 * 2 ^ s.layout.sizeCode + 2 → exec (.dataFieldRead ch code bytes) s = .next s) ∧
      ∀ (data rest : List Byte) (high low : Byte) (kind : MarkKind), code = 0x6B ∨ code = 0x6C →
        data.length = 128 * 2 ^ s.layout.sizeCode →
        (∃ pre post, s.layout.sectors = pre ++ ⟨r.id, kind⟩ :: post ∧ ∀ e ∈ pre, e.id ≠ r.id) →
        exec (.dataFieldRead ch code (data ++ [high, low] ++ rest)) s =
          .next (with_
            { a with
              search := .searching
              outcomes := before ++
                { r with
                  outcome :=
                    if cyclicCheck ([0xB5, 0xB5, 0xB5, code] ++ data) ≠ high ++ low then .dataCheck
                    else if code ≠ (if kind = .normal then 0x6B else 0x6C) then .markKind
                    else if s.layout.verify = .compare ∧ data ≠ s.sectorData ch a.source a.track r.id then .mismatch
                    else .good } :: after })

/-- A track that the drive gives back just as the writer laid it down is found GOOD in every sector, at either verify level
and with whatever patches and skew (R7 to R9, R108 to R112, R144). -/
def Obligations.TrackReadBackVerifiesGood : Prop :=
  ∀ (s : State) (ch : ChannelNo) (a : Attempt), (s.chan ch).state = .verifying → (s.chan ch).attempt = some a →
    a.phase = .read → a.search = .searching →
    a.outcomes = (s.layout.sectors.rotateLeft (a.track * s.layout.skew % s.layout.n)).map
      (fun e => ⟨e.id, .noHeader, false⟩) →
    (s.layout.sectors.map (·.id)).Nodup →
    s.run (s.readBack ch a.source a.track) = s.setChan ch
      { s.chan ch with
        attempt := some
          { a with
            outcomes := (s.layout.sectors.rotateLeft (a.track * s.layout.skew % s.layout.n)).map
              fun e => ⟨e.id, .good, true⟩ } }
end

