-- ==== Sys2Proof/Laws/Channel.lean ====
section
/-!
SUPPORT. The small lemmas of the channel record: for each of the operations that the others are built from, one lemma for
each field.
-/

namespace Sys2Proof.Machine

/-! #### `Channel.enter` -/

@[simp] theorem Channel.enter_state (c : Channel) (st : ChState) (now : Nat) : (c.enter st now).state = st := rfl
@[simp] theorem Channel.enter_cylinder (c : Channel) (st : ChState) (now : Nat) : (c.enter st now).cylinder = c.cylinder := rfl
@[simp] theorem Channel.enter_cursor (c : Channel) (st : ChState) (now : Nat) : (c.enter st now).cursor = c.cursor := rfl
@[simp] theorem Channel.enter_attempts (c : Channel) (st : ChState) (now : Nat) : (c.enter st now).attempts = c.attempts := rfl
@[simp] theorem Channel.enter_copy (c : Channel) (st : ChState) (now : Nat) : (c.enter st now).copy = c.copy := rfl
@[simp] theorem Channel.enter_activePrecomp (c : Channel) (st : ChState) (now : Nat) : (c.enter st now).activePrecomp = c.activePrecomp := rfl
@[simp] theorem Channel.enter_held (c : Channel) (st : ChState) (now : Nat) : (c.enter st now).held = c.held := rfl
@[simp] theorem Channel.enter_spinUpTimer (c : Channel) (st : ChState) (now : Nat) : (c.enter st now).spinUpTimer = c.spinUpTimer := rfl
@[simp] theorem Channel.enter_idleTimer (c : Channel) (st : ChState) (now : Nat) : (c.enter st now).idleTimer = c.idleTimer := rfl
@[simp] theorem Channel.enter_recoveryTimer (c : Channel) (st : ChState) (now : Nat) : (c.enter st now).recoveryTimer = c.recoveryTimer := rfl
@[simp] theorem Channel.enter_sortTimer (c : Channel) (st : ChState) (now : Nat) : (c.enter st now).sortTimer = c.sortTimer := rfl
@[simp] theorem Channel.enter_ejectTimer (c : Channel) (st : ChState) (now : Nat) : (c.enter st now).ejectTimer = c.ejectTimer := rfl
@[simp] theorem Channel.enter_removalNoted (c : Channel) (st : ChState) (now : Nat) : (c.enter st now).removalNoted = c.removalNoted := rfl
@[simp] theorem Channel.enter_resetHeld (c : Channel) (st : ChState) (now : Nat) : (c.enter st now).resetHeld = c.resetHeld := rfl
@[simp] theorem Channel.enter_strobeSort (c : Channel) (st : ChState) (now : Nat) : (c.enter st now).strobeSort = c.strobeSort := rfl
@[simp] theorem Channel.enter_active (c : Channel) (st : ChState) (now : Nat) : (c.enter st now).active = c.active := rfl
@[simp] theorem Channel.enter_pendingRecord (c : Channel) (st : ChState) (now : Nat) : (c.enter st now).pendingRecord = c.pendingRecord := rfl
@[simp] theorem Channel.enter_attempt (c : Channel) (st : ChState) (now : Nat) : (c.enter st now).attempt = c.attempt := rfl
@[simp] theorem Channel.enter_recalSteps (c : Channel) (st : ChState) (now : Nat) : (c.enter st now).recalSteps = c.recalSteps := rfl
@[simp] theorem Channel.enter_stepTimer (c : Channel) (st : ChState) (now : Nat) : (c.enter st now).stepTimer = c.stepTimer := rfl
@[simp] theorem Channel.enter_settleTimer (c : Channel) (st : ChState) (now : Nat) : (c.enter st now).settleTimer = c.settleTimer := rfl
@[simp] theorem Channel.enter_lines (c : Channel) (st : ChState) (now : Nat) : (c.enter st now).lines = c.lines := rfl

/-! #### `Channel.hold` -/

@[simp] theorem Channel.hold_state (c : Channel) (r : Report) : (c.hold r).state = c.state := rfl
@[simp] theorem Channel.hold_cylinder (c : Channel) (r : Report) : (c.hold r).cylinder = c.cylinder := rfl
@[simp] theorem Channel.hold_cursor (c : Channel) (r : Report) : (c.hold r).cursor = c.cursor := rfl
@[simp] theorem Channel.hold_attempts (c : Channel) (r : Report) : (c.hold r).attempts = c.attempts := rfl
@[simp] theorem Channel.hold_copy (c : Channel) (r : Report) : (c.hold r).copy = c.copy := rfl
@[simp] theorem Channel.hold_activePrecomp (c : Channel) (r : Report) : (c.hold r).activePrecomp = c.activePrecomp := rfl
@[simp] theorem Channel.hold_held (c : Channel) (r : Report) : (c.hold r).held = c.held ++ [r] := rfl
@[simp] theorem Channel.hold_spinUpTimer (c : Channel) (r : Report) : (c.hold r).spinUpTimer = c.spinUpTimer := rfl
@[simp] theorem Channel.hold_idleTimer (c : Channel) (r : Report) : (c.hold r).idleTimer = c.idleTimer := rfl
@[simp] theorem Channel.hold_recoveryTimer (c : Channel) (r : Report) : (c.hold r).recoveryTimer = c.recoveryTimer := rfl
@[simp] theorem Channel.hold_sortTimer (c : Channel) (r : Report) : (c.hold r).sortTimer = c.sortTimer := rfl
@[simp] theorem Channel.hold_ejectTimer (c : Channel) (r : Report) : (c.hold r).ejectTimer = c.ejectTimer := rfl
@[simp] theorem Channel.hold_removalNoted (c : Channel) (r : Report) : (c.hold r).removalNoted = c.removalNoted := rfl
@[simp] theorem Channel.hold_resetHeld (c : Channel) (r : Report) : (c.hold r).resetHeld = c.resetHeld := rfl
@[simp] theorem Channel.hold_strobeSort (c : Channel) (r : Report) : (c.hold r).strobeSort = c.strobeSort := rfl
@[simp] theorem Channel.hold_active (c : Channel) (r : Report) : (c.hold r).active = c.active := rfl
@[simp] theorem Channel.hold_pendingRecord (c : Channel) (r : Report) : (c.hold r).pendingRecord = c.pendingRecord := rfl
@[simp] theorem Channel.hold_monitor (c : Channel) (r : Report) : (c.hold r).monitor = c.monitor := rfl
@[simp] theorem Channel.hold_attempt (c : Channel) (r : Report) : (c.hold r).attempt = c.attempt := rfl
@[simp] theorem Channel.hold_recalSteps (c : Channel) (r : Report) : (c.hold r).recalSteps = c.recalSteps := rfl
@[simp] theorem Channel.hold_stepTimer (c : Channel) (r : Report) : (c.hold r).stepTimer = c.stepTimer := rfl
@[simp] theorem Channel.hold_settleTimer (c : Channel) (r : Report) : (c.hold r).settleTimer = c.settleTimer := rfl
@[simp] theorem Channel.hold_lines (c : Channel) (r : Report) : (c.hold r).lines = c.lines := rfl

/-! #### `Channel.holdOnce` -/

@[simp] theorem Channel.holdOnce_state (c : Channel) (r : Report) : (c.holdOnce r).state = c.state := by unfold Channel.holdOnce; split <;> rfl
@[simp] theorem Channel.holdOnce_cylinder (c : Channel) (r : Report) : (c.holdOnce r).cylinder = c.cylinder := by unfold Channel.holdOnce; split <;> rfl
@[simp] theorem Channel.holdOnce_cursor (c : Channel) (r : Report) : (c.holdOnce r).cursor = c.cursor := by unfold Channel.holdOnce; split <;> rfl
@[simp] theorem Channel.holdOnce_attempts (c : Channel) (r : Report) : (c.holdOnce r).attempts = c.attempts := by unfold Channel.holdOnce; split <;> rfl
@[simp] theorem Channel.holdOnce_copy (c : Channel) (r : Report) : (c.holdOnce r).copy = c.copy := by unfold Channel.holdOnce; split <;> rfl
@[simp] theorem Channel.holdOnce_activePrecomp (c : Channel) (r : Report) : (c.holdOnce r).activePrecomp = c.activePrecomp := by unfold Channel.holdOnce; split <;> rfl
@[simp] theorem Channel.holdOnce_held (c : Channel) (r : Report) : (c.holdOnce r).held = if r ∈ c.held then c.held else c.held ++ [r] := by unfold Channel.holdOnce; split <;> rfl
@[simp] theorem Channel.holdOnce_spinUpTimer (c : Channel) (r : Report) : (c.holdOnce r).spinUpTimer = c.spinUpTimer := by unfold Channel.holdOnce; split <;> rfl
@[simp] theorem Channel.holdOnce_idleTimer (c : Channel) (r : Report) : (c.holdOnce r).idleTimer = c.idleTimer := by unfold Channel.holdOnce; split <;> rfl
@[simp] theorem Channel.holdOnce_recoveryTimer (c : Channel) (r : Report) : (c.holdOnce r).recoveryTimer = c.recoveryTimer := by unfold Channel.holdOnce; split <;> rfl
@[simp] theorem Channel.holdOnce_sortTimer (c : Channel) (r : Report) : (c.holdOnce r).sortTimer = c.sortTimer := by unfold Channel.holdOnce; split <;> rfl
@[simp] theorem Channel.holdOnce_ejectTimer (c : Channel) (r : Report) : (c.holdOnce r).ejectTimer = c.ejectTimer := by unfold Channel.holdOnce; split <;> rfl
@[simp] theorem Channel.holdOnce_removalNoted (c : Channel) (r : Report) : (c.holdOnce r).removalNoted = c.removalNoted := by unfold Channel.holdOnce; split <;> rfl
@[simp] theorem Channel.holdOnce_resetHeld (c : Channel) (r : Report) : (c.holdOnce r).resetHeld = c.resetHeld := by unfold Channel.holdOnce; split <;> rfl
@[simp] theorem Channel.holdOnce_strobeSort (c : Channel) (r : Report) : (c.holdOnce r).strobeSort = c.strobeSort := by unfold Channel.holdOnce; split <;> rfl
@[simp] theorem Channel.holdOnce_active (c : Channel) (r : Report) : (c.holdOnce r).active = c.active := by unfold Channel.holdOnce; split <;> rfl
@[simp] theorem Channel.holdOnce_pendingRecord (c : Channel) (r : Report) : (c.holdOnce r).pendingRecord = c.pendingRecord := by unfold Channel.holdOnce; split <;> rfl
@[simp] theorem Channel.holdOnce_monitor (c : Channel) (r : Report) : (c.holdOnce r).monitor = c.monitor := by unfold Channel.holdOnce; split <;> rfl
@[simp] theorem Channel.holdOnce_attempt (c : Channel) (r : Report) : (c.holdOnce r).attempt = c.attempt := by unfold Channel.holdOnce; split <;> rfl
@[simp] theorem Channel.holdOnce_recalSteps (c : Channel) (r : Report) : (c.holdOnce r).recalSteps = c.recalSteps := by unfold Channel.holdOnce; split <;> rfl
@[simp] theorem Channel.holdOnce_stepTimer (c : Channel) (r : Report) : (c.holdOnce r).stepTimer = c.stepTimer := by unfold Channel.holdOnce; split <;> rfl
@[simp] theorem Channel.holdOnce_settleTimer (c : Channel) (r : Report) : (c.holdOnce r).settleTimer = c.settleTimer := by unfold Channel.holdOnce; split <;> rfl
@[simp] theorem Channel.holdOnce_lines (c : Channel) (r : Report) : (c.holdOnce r).lines = c.lines := by unfold Channel.holdOnce; split <;> rfl

/-! #### `Channel.modLines` -/

@[simp] theorem Channel.modLines_state (c : Channel) (f : Lines → Lines) : (c.modLines f).state = c.state := rfl
@[simp] theorem Channel.modLines_cylinder (c : Channel) (f : Lines → Lines) : (c.modLines f).cylinder = c.cylinder := rfl
@[simp] theorem Channel.modLines_cursor (c : Channel) (f : Lines → Lines) : (c.modLines f).cursor = c.cursor := rfl
@[simp] theorem Channel.modLines_attempts (c : Channel) (f : Lines → Lines) : (c.modLines f).attempts = c.attempts := rfl
@[simp] theorem Channel.modLines_copy (c : Channel) (f : Lines → Lines) : (c.modLines f).copy = c.copy := rfl
@[simp] theorem Channel.modLines_activePrecomp (c : Channel) (f : Lines → Lines) : (c.modLines f).activePrecomp = c.activePrecomp := rfl
@[simp] theorem Channel.modLines_held (c : Channel) (f : Lines → Lines) : (c.modLines f).held = c.held := rfl
@[simp] theorem Channel.modLines_spinUpTimer (c : Channel) (f : Lines → Lines) : (c.modLines f).spinUpTimer = c.spinUpTimer := rfl
@[simp] theorem Channel.modLines_idleTimer (c : Channel) (f : Lines → Lines) : (c.modLines f).idleTimer = c.idleTimer := rfl
@[simp] theorem Channel.modLines_recoveryTimer (c : Channel) (f : Lines → Lines) : (c.modLines f).recoveryTimer = c.recoveryTimer := rfl
@[simp] theorem Channel.modLines_sortTimer (c : Channel) (f : Lines → Lines) : (c.modLines f).sortTimer = c.sortTimer := rfl
@[simp] theorem Channel.modLines_ejectTimer (c : Channel) (f : Lines → Lines) : (c.modLines f).ejectTimer = c.ejectTimer := rfl
@[simp] theorem Channel.modLines_removalNoted (c : Channel) (f : Lines → Lines) : (c.modLines f).removalNoted = c.removalNoted := rfl
@[simp] theorem Channel.modLines_resetHeld (c : Channel) (f : Lines → Lines) : (c.modLines f).resetHeld = c.resetHeld := rfl
@[simp] theorem Channel.modLines_strobeSort (c : Channel) (f : Lines → Lines) : (c.modLines f).strobeSort = c.strobeSort := rfl
@[simp] theorem Channel.modLines_active (c : Channel) (f : Lines → Lines) : (c.modLines f).active = c.active := rfl
@[simp] theorem Channel.modLines_pendingRecord (c : Channel) (f : Lines → Lines) : (c.modLines f).pendingRecord = c.pendingRecord := rfl
@[simp] theorem Channel.modLines_monitor (c : Channel) (f : Lines → Lines) : (c.modLines f).monitor = c.monitor := rfl
@[simp] theorem Channel.modLines_attempt (c : Channel) (f : Lines → Lines) : (c.modLines f).attempt = c.attempt := rfl
@[simp] theorem Channel.modLines_recalSteps (c : Channel) (f : Lines → Lines) : (c.modLines f).recalSteps = c.recalSteps := rfl
@[simp] theorem Channel.modLines_stepTimer (c : Channel) (f : Lines → Lines) : (c.modLines f).stepTimer = c.stepTimer := rfl
@[simp] theorem Channel.modLines_settleTimer (c : Channel) (f : Lines → Lines) : (c.modLines f).settleTimer = c.settleTimer := rfl
@[simp] theorem Channel.modLines_lines (c : Channel) (f : Lines → Lines) : (c.modLines f).lines = f c.lines := rfl

/-! #### `Channel.modCopy` -/

@[simp] theorem Channel.modCopy_state (c : Channel) (f : CopyRecord → CopyRecord) : (c.modCopy f).state = c.state := rfl
@[simp] theorem Channel.modCopy_cylinder (c : Channel) (f : CopyRecord → CopyRecord) : (c.modCopy f).cylinder = c.cylinder := rfl
@[simp] theorem Channel.modCopy_cursor (c : Channel) (f : CopyRecord → CopyRecord) : (c.modCopy f).cursor = c.cursor := rfl
@[simp] theorem Channel.modCopy_attempts (c : Channel) (f : CopyRecord → CopyRecord) : (c.modCopy f).attempts = c.attempts := rfl
@[simp] theorem Channel.modCopy_copy (c : Channel) (f : CopyRecord → CopyRecord) : (c.modCopy f).copy = c.copy.map f := rfl
@[simp] theorem Channel.modCopy_activePrecomp (c : Channel) (f : CopyRecord → CopyRecord) : (c.modCopy f).activePrecomp = c.activePrecomp := rfl
@[simp] theorem Channel.modCopy_held (c : Channel) (f : CopyRecord → CopyRecord) : (c.modCopy f).held = c.held := rfl
@[simp] theorem Channel.modCopy_spinUpTimer (c : Channel) (f : CopyRecord → CopyRecord) : (c.modCopy f).spinUpTimer = c.spinUpTimer := rfl
@[simp] theorem Channel.modCopy_idleTimer (c : Channel) (f : CopyRecord → CopyRecord) : (c.modCopy f).idleTimer = c.idleTimer := rfl
@[simp] theorem Channel.modCopy_recoveryTimer (c : Channel) (f : CopyRecord → CopyRecord) : (c.modCopy f).recoveryTimer = c.recoveryTimer := rfl
@[simp] theorem Channel.modCopy_sortTimer (c : Channel) (f : CopyRecord → CopyRecord) : (c.modCopy f).sortTimer = c.sortTimer := rfl
@[simp] theorem Channel.modCopy_ejectTimer (c : Channel) (f : CopyRecord → CopyRecord) : (c.modCopy f).ejectTimer = c.ejectTimer := rfl
@[simp] theorem Channel.modCopy_removalNoted (c : Channel) (f : CopyRecord → CopyRecord) : (c.modCopy f).removalNoted = c.removalNoted := rfl
@[simp] theorem Channel.modCopy_resetHeld (c : Channel) (f : CopyRecord → CopyRecord) : (c.modCopy f).resetHeld = c.resetHeld := rfl
@[simp] theorem Channel.modCopy_strobeSort (c : Channel) (f : CopyRecord → CopyRecord) : (c.modCopy f).strobeSort = c.strobeSort := rfl
@[simp] theorem Channel.modCopy_active (c : Channel) (f : CopyRecord → CopyRecord) : (c.modCopy f).active = c.active := rfl
@[simp] theorem Channel.modCopy_pendingRecord (c : Channel) (f : CopyRecord → CopyRecord) : (c.modCopy f).pendingRecord = c.pendingRecord := rfl
@[simp] theorem Channel.modCopy_monitor (c : Channel) (f : CopyRecord → CopyRecord) : (c.modCopy f).monitor = c.monitor := rfl
@[simp] theorem Channel.modCopy_attempt (c : Channel) (f : CopyRecord → CopyRecord) : (c.modCopy f).attempt = c.attempt := rfl
@[simp] theorem Channel.modCopy_recalSteps (c : Channel) (f : CopyRecord → CopyRecord) : (c.modCopy f).recalSteps = c.recalSteps := rfl
@[simp] theorem Channel.modCopy_stepTimer (c : Channel) (f : CopyRecord → CopyRecord) : (c.modCopy f).stepTimer = c.stepTimer := rfl
@[simp] theorem Channel.modCopy_settleTimer (c : Channel) (f : CopyRecord → CopyRecord) : (c.modCopy f).settleTimer = c.settleTimer := rfl
@[simp] theorem Channel.modCopy_lines (c : Channel) (f : CopyRecord → CopyRecord) : (c.modCopy f).lines = c.lines := rfl

/-! #### `Channel.applyPending` -/

@[simp] theorem Channel.applyPending_state (c : Channel) : (c.applyPending).state = c.state := rfl
@[simp] theorem Channel.applyPending_cylinder (c : Channel) : (c.applyPending).cylinder = c.cylinder := rfl
@[simp] theorem Channel.applyPending_cursor (c : Channel) : (c.applyPending).cursor = c.cursor := rfl
@[simp] theorem Channel.applyPending_attempts (c : Channel) : (c.applyPending).attempts = c.attempts := rfl
@[simp] theorem Channel.applyPending_copy (c : Channel) : (c.applyPending).copy = c.copy := rfl
@[simp] theorem Channel.applyPending_activePrecomp (c : Channel) : (c.applyPending).activePrecomp = c.activePrecomp := rfl
@[simp] theorem Channel.applyPending_held (c : Channel) : (c.applyPending).held = c.held := rfl
@[simp] theorem Channel.applyPending_spinUpTimer (c : Channel) : (c.applyPending).spinUpTimer = c.spinUpTimer := rfl
@[simp] theorem Channel.applyPending_idleTimer (c : Channel) : (c.applyPending).idleTimer = c.idleTimer := rfl
@[simp] theorem Channel.applyPending_recoveryTimer (c : Channel) : (c.applyPending).recoveryTimer = c.recoveryTimer := rfl
@[simp] theorem Channel.applyPending_sortTimer (c : Channel) : (c.applyPending).sortTimer = c.sortTimer := rfl
@[simp] theorem Channel.applyPending_ejectTimer (c : Channel) : (c.applyPending).ejectTimer = c.ejectTimer := rfl
@[simp] theorem Channel.applyPending_removalNoted (c : Channel) : (c.applyPending).removalNoted = c.removalNoted := rfl
@[simp] theorem Channel.applyPending_resetHeld (c : Channel) : (c.applyPending).resetHeld = c.resetHeld := rfl
@[simp] theorem Channel.applyPending_strobeSort (c : Channel) : (c.applyPending).strobeSort = c.strobeSort := rfl
@[simp] theorem Channel.applyPending_active (c : Channel) : (c.applyPending).active = c.pendingRecord.getD c.active := rfl
@[simp] theorem Channel.applyPending_pendingRecord (c : Channel) : (c.applyPending).pendingRecord = none := rfl
@[simp] theorem Channel.applyPending_monitor (c : Channel) : (c.applyPending).monitor = c.monitor := rfl
@[simp] theorem Channel.applyPending_attempt (c : Channel) : (c.applyPending).attempt = c.attempt := rfl
@[simp] theorem Channel.applyPending_recalSteps (c : Channel) : (c.applyPending).recalSteps = c.recalSteps := rfl
@[simp] theorem Channel.applyPending_stepTimer (c : Channel) : (c.applyPending).stepTimer = c.stepTimer := rfl
@[simp] theorem Channel.applyPending_settleTimer (c : Channel) : (c.applyPending).settleTimer = c.settleTimer := rfl
@[simp] theorem Channel.applyPending_lines (c : Channel) : (c.applyPending).lines = c.lines := rfl

/-! #### `Channel.setEnabled` -/

@[simp] theorem Channel.setEnabled_state (c : Channel) (y : Bool) : (c.setEnabled y).state = c.state := rfl
@[simp] theorem Channel.setEnabled_cylinder (c : Channel) (y : Bool) : (c.setEnabled y).cylinder = c.cylinder := rfl
@[simp] theorem Channel.setEnabled_cursor (c : Channel) (y : Bool) : (c.setEnabled y).cursor = c.cursor := rfl
@[simp] theorem Channel.setEnabled_attempts (c : Channel) (y : Bool) : (c.setEnabled y).attempts = c.attempts := rfl
@[simp] theorem Channel.setEnabled_copy (c : Channel) (y : Bool) : (c.setEnabled y).copy = c.copy := rfl
@[simp] theorem Channel.setEnabled_activePrecomp (c : Channel) (y : Bool) : (c.setEnabled y).activePrecomp = c.activePrecomp := rfl
@[simp] theorem Channel.setEnabled_held (c : Channel) (y : Bool) : (c.setEnabled y).held = c.held := rfl
@[simp] theorem Channel.setEnabled_spinUpTimer (c : Channel) (y : Bool) : (c.setEnabled y).spinUpTimer = c.spinUpTimer := rfl
@[simp] theorem Channel.setEnabled_idleTimer (c : Channel) (y : Bool) : (c.setEnabled y).idleTimer = c.idleTimer := rfl
@[simp] theorem Channel.setEnabled_recoveryTimer (c : Channel) (y : Bool) : (c.setEnabled y).recoveryTimer = c.recoveryTimer := rfl
@[simp] theorem Channel.setEnabled_sortTimer (c : Channel) (y : Bool) : (c.setEnabled y).sortTimer = c.sortTimer := rfl
@[simp] theorem Channel.setEnabled_ejectTimer (c : Channel) (y : Bool) : (c.setEnabled y).ejectTimer = c.ejectTimer := rfl
@[simp] theorem Channel.setEnabled_removalNoted (c : Channel) (y : Bool) : (c.setEnabled y).removalNoted = c.removalNoted := rfl
@[simp] theorem Channel.setEnabled_resetHeld (c : Channel) (y : Bool) : (c.setEnabled y).resetHeld = c.resetHeld := rfl
@[simp] theorem Channel.setEnabled_strobeSort (c : Channel) (y : Bool) : (c.setEnabled y).strobeSort = c.strobeSort := rfl
@[simp] theorem Channel.setEnabled_active (c : Channel) (y : Bool) : (c.setEnabled y).active = { c.active with enabled := y } := rfl
@[simp] theorem Channel.setEnabled_pendingRecord (c : Channel) (y : Bool) : (c.setEnabled y).pendingRecord = c.pendingRecord.map fun r => { r with enabled := y } := rfl
@[simp] theorem Channel.setEnabled_monitor (c : Channel) (y : Bool) : (c.setEnabled y).monitor = c.monitor := rfl
@[simp] theorem Channel.setEnabled_attempt (c : Channel) (y : Bool) : (c.setEnabled y).attempt = c.attempt := rfl
@[simp] theorem Channel.setEnabled_recalSteps (c : Channel) (y : Bool) : (c.setEnabled y).recalSteps = c.recalSteps := rfl
@[simp] theorem Channel.setEnabled_stepTimer (c : Channel) (y : Bool) : (c.setEnabled y).stepTimer = c.stepTimer := rfl
@[simp] theorem Channel.setEnabled_settleTimer (c : Channel) (y : Bool) : (c.setEnabled y).settleTimer = c.settleTimer := rfl
@[simp] theorem Channel.setEnabled_lines (c : Channel) (y : Bool) : (c.setEnabled y).lines = c.lines := rfl

/-! #### `Channel.dropAttempt` -/

@[simp] theorem Channel.dropAttempt_state (c : Channel) : (c.dropAttempt).state = c.state := rfl
@[simp] theorem Channel.dropAttempt_cylinder (c : Channel) : (c.dropAttempt).cylinder = c.cylinder := rfl
@[simp] theorem Channel.dropAttempt_cursor (c : Channel) : (c.dropAttempt).cursor = c.cursor := rfl
@[simp] theorem Channel.dropAttempt_attempts (c : Channel) : (c.dropAttempt).attempts = c.attempts := rfl
@[simp] theorem Channel.dropAttempt_copy (c : Channel) : (c.dropAttempt).copy = c.copy := rfl
@[simp] theorem Channel.dropAttempt_activePrecomp (c : Channel) : (c.dropAttempt).activePrecomp = c.activePrecomp := rfl
@[simp] theorem Channel.dropAttempt_held (c : Channel) : (c.dropAttempt).held = c.held := rfl
@[simp] theorem Channel.dropAttempt_spinUpTimer (c : Channel) : (c.dropAttempt).spinUpTimer = c.spinUpTimer := rfl
@[simp] theorem Channel.dropAttempt_idleTimer (c : Channel) : (c.dropAttempt).idleTimer = c.idleTimer := rfl
@[simp] theorem Channel.dropAttempt_recoveryTimer (c : Channel) : (c.dropAttempt).recoveryTimer = c.recoveryTimer := rfl
@[simp] theorem Channel.dropAttempt_sortTimer (c : Channel) : (c.dropAttempt).sortTimer = c.sortTimer := rfl
@[simp] theorem Channel.dropAttempt_ejectTimer (c : Channel) : (c.dropAttempt).ejectTimer = c.ejectTimer := rfl
@[simp] theorem Channel.dropAttempt_removalNoted (c : Channel) : (c.dropAttempt).removalNoted = c.removalNoted := rfl
@[simp] theorem Channel.dropAttempt_resetHeld (c : Channel) : (c.dropAttempt).resetHeld = c.resetHeld := rfl
@[simp] theorem Channel.dropAttempt_strobeSort (c : Channel) : (c.dropAttempt).strobeSort = c.strobeSort := rfl
@[simp] theorem Channel.dropAttempt_active (c : Channel) : (c.dropAttempt).active = c.active := rfl
@[simp] theorem Channel.dropAttempt_pendingRecord (c : Channel) : (c.dropAttempt).pendingRecord = c.pendingRecord := rfl
@[simp] theorem Channel.dropAttempt_monitor (c : Channel) : (c.dropAttempt).monitor = c.monitor := rfl
@[simp] theorem Channel.dropAttempt_attempt (c : Channel) : (c.dropAttempt).attempt = none := rfl
@[simp] theorem Channel.dropAttempt_recalSteps (c : Channel) : (c.dropAttempt).recalSteps = c.recalSteps := rfl
@[simp] theorem Channel.dropAttempt_stepTimer (c : Channel) : (c.dropAttempt).stepTimer = c.stepTimer := rfl
@[simp] theorem Channel.dropAttempt_settleTimer (c : Channel) : (c.dropAttempt).settleTimer = c.settleTimer := rfl
@[simp] theorem Channel.dropAttempt_lines (c : Channel) : (c.dropAttempt).lines = { c.lines with writeGate := false, writeData := [] } := rfl

/-! #### `Channel.leaveFor` -/

@[simp] theorem Channel.leaveFor_state (c : Channel) (st : ChState) (now : Nat) : (c.leaveFor st now).state = st := rfl
@[simp] theorem Channel.leaveFor_cylinder (c : Channel) (st : ChState) (now : Nat) : (c.leaveFor st now).cylinder = c.cylinder := rfl
@[simp] theorem Channel.leaveFor_cursor (c : Channel) (st : ChState) (now : Nat) : (c.leaveFor st now).cursor = c.cursor := rfl
@[simp] theorem Channel.leaveFor_attempts (c : Channel) (st : ChState) (now : Nat) : (c.leaveFor st now).attempts = c.attempts := rfl
@[simp] theorem Channel.leaveFor_copy (c : Channel) (st : ChState) (now : Nat) : (c.leaveFor st now).copy = c.copy := rfl
@[simp] theorem Channel.leaveFor_activePrecomp (c : Channel) (st : ChState) (now : Nat) : (c.leaveFor st now).activePrecomp = c.activePrecomp := rfl
@[simp] theorem Channel.leaveFor_held (c : Channel) (st : ChState) (now : Nat) : (c.leaveFor st now).held = c.held := rfl
@[simp] theorem Channel.leaveFor_spinUpTimer (c : Channel) (st : ChState) (now : Nat) : (c.leaveFor st now).spinUpTimer = none := rfl
@[simp] theorem Channel.leaveFor_idleTimer (c : Channel) (st : ChState) (now : Nat) : (c.leaveFor st now).idleTimer = none := rfl
@[simp] theorem Channel.leaveFor_recoveryTimer (c : Channel) (st : ChState) (now : Nat) : (c.leaveFor st now).recoveryTimer = c.recoveryTimer := rfl
@[simp] theorem Channel.leaveFor_sortTimer (c : Channel) (st : ChState) (now : Nat) : (c.leaveFor st now).sortTimer = c.sortTimer := rfl
@[simp] theorem Channel.leaveFor_ejectTimer (c : Channel) (st : ChState) (now : Nat) : (c.leaveFor st now).ejectTimer = c.ejectTimer := rfl
@[simp] theorem Channel.leaveFor_removalNoted (c : Channel) (st : ChState) (now : Nat) : (c.leaveFor st now).removalNoted = c.removalNoted := rfl
@[simp] theorem Channel.leaveFor_resetHeld (c : Channel) (st : ChState) (now : Nat) : (c.leaveFor st now).resetHeld = c.resetHeld := rfl
@[simp] theorem Channel.leaveFor_strobeSort (c : Channel) (st : ChState) (now : Nat) : (c.leaveFor st now).strobeSort = c.strobeSort := rfl
@[simp] theorem Channel.leaveFor_active (c : Channel) (st : ChState) (now : Nat) : (c.leaveFor st now).active = c.active := rfl
@[simp] theorem Channel.leaveFor_pendingRecord (c : Channel) (st : ChState) (now : Nat) : (c.leaveFor st now).pendingRecord = c.pendingRecord := rfl
@[simp] theorem Channel.leaveFor_monitor (c : Channel) (st : ChState) (now : Nat) : (c.leaveFor st now).monitor = (c.enter st now).monitor := rfl
@[simp] theorem Channel.leaveFor_attempt (c : Channel) (st : ChState) (now : Nat) : (c.leaveFor st now).attempt = c.attempt := rfl
@[simp] theorem Channel.leaveFor_recalSteps (c : Channel) (st : ChState) (now : Nat) : (c.leaveFor st now).recalSteps = c.recalSteps := rfl
@[simp] theorem Channel.leaveFor_stepTimer (c : Channel) (st : ChState) (now : Nat) : (c.leaveFor st now).stepTimer = c.stepTimer := rfl
@[simp] theorem Channel.leaveFor_settleTimer (c : Channel) (st : ChState) (now : Nat) : (c.leaveFor st now).settleTimer = c.settleTimer := rfl
@[simp] theorem Channel.leaveFor_lines (c : Channel) (st : ChState) (now : Nat) : (c.leaveFor st now).lines = c.lines := rfl

end Sys2Proof.Machine
end

