-- ==== Sys2Proof/Laws/Sets.lean ====
section
/-!
SUPPORT. The finite sets of Machine/Ops.lean: what holds of a number after each operation, and how the count moves.
-/

namespace Sys2Proof.Machine

variable {w : Nat}

@[simp] theorem setHas_zero (i : Nat) : setHas (0#w) i = false := by simp [setHas]

theorem setHas_ge (x : BitVec w) {i : Nat} (h : w ≤ i) : setHas x i = false := by
  simp [setHas, BitVec.getLsbD_of_ge x i h]

/-- A number joins a set. -/
theorem setHas_setAdd (x : BitVec w) (i j : Nat) :
    setHas (setAdd x i) j = (setHas x j || (decide (j < w) && decide (i = j))) := by
  by_cases e : i = j
  · subst e; simp [setHas, setAdd, BitVec.getLsbD_or, BitVec.getLsbD_twoPow]
  · simp [setHas, setAdd, BitVec.getLsbD_or, BitVec.getLsbD_twoPow, e]

/-- A number leaves a set. -/
theorem setHas_setDrop (x : BitVec w) (i j : Nat) : setHas (setDrop x i) j = (setHas x j && decide (i ≠ j)) := by
  by_cases hj : j < w
  · by_cases e : i = j
    · simp [setHas, setDrop, hj, e]
    · simp [setHas, setDrop, hj, e, Ne.symm e]
  · simp [setHas_ge _ (Nat.le_of_not_lt hj)]

/-- Two sets with the same numbers are the same set. -/
theorem set_ext {x y : BitVec w} (h : ∀ i < w, setHas x i = setHas y i) : x = y :=
  BitVec.eq_of_getLsbD_eq fun i hi => h i hi

/-- A set is empty exactly when it has no number. -/
theorem set_eq_zero_iff (x : BitVec w) : x = 0 ↔ ∀ i < w, setHas x i = false :=
  ⟨fun h i _ => by simp [h], fun h => set_ext fun i hi => by simp [h i hi]⟩

@[simp] theorem setCard_zero : setCard (0#w) = 0 := by simp [setCard]

theorem setCard_le (x : BitVec w) : setCard x ≤ w := by
  simpa [setCard] using List.countP_le_length (p := fun i => setHas x i) (l := List.range w)

/-- Two properties that differ at one number of a range alone count it once. -/
theorem countP_differ {p q : Nat → Bool} {i n : Nat} (hi : i < n) (h : ∀ j, j ≠ i → p j = q j) (hp : p i = true)
    (hq : q i = false) : (List.range n).countP p = (List.range n).countP q + 1 := by
  induction n with
  | zero => omega
  | succ n ih =>
    rw [List.range_succ, List.countP_append, List.countP_append]
    by_cases e : i = n
    · subst e
      have same : (List.range i).countP p = (List.range i).countP q :=
        List.countP_congr fun x hx => by rw [h x (by have := List.mem_range.1 hx; omega)]
      simp [same, hp, hq]
    · rw [ih (by omega)]
      simp [List.countP_cons, h n fun hh => e hh.symm]
      omega

/-- A number that leaves a set it is in lowers the count by one. -/
theorem setCard_setDrop {x : BitVec w} {i : Nat} (hi : i < w) (h : setHas x i = true) :
    setCard x = setCard (setDrop x i) + 1 :=
  countP_differ hi (fun j hj => by simp [setHas_setDrop, Ne.symm hj]) h (by simp [setHas_setDrop])

/-- A number that joins a set it is not in raises the count by one. -/
theorem setCard_setAdd {x : BitVec w} {i : Nat} (hi : i < w) (h : setHas x i = false) :
    setCard (setAdd x i) = setCard x + 1 :=
  countP_differ hi (fun j hj => by simp [setHas_setAdd, Ne.symm hj]) (by simp [setHas_setAdd, hi]) h

/-- A number that is not in a set leaves it as it is. -/
theorem setDrop_of_not_has {x : BitVec w} {i : Nat} (h : setHas x i = false) : setDrop x i = x :=
  set_ext fun j _ => by
    by_cases e : i = j
    · subst e; simp [setHas_setDrop, h]
    · simp [setHas_setDrop, e]

/-- A run of numbers joins a set. -/
theorem setHas_setAddRun (x : BitVec w) (k c j : Nat) :
    setHas (setAddRun x k c) j = (setHas x j || (decide (j < w) && decide (k ≤ j ∧ j < k + c))) := by
  induction c with
  | zero => simp [setAddRun] <;> omega
  | succ c ih =>
    have step : setAddRun x k (c + 1) = setAdd (setAddRun x k c) (k + c) := by
      simp [setAddRun, List.range_succ, List.foldl_append]
    rw [step, setHas_setAdd, ih]
    rw [Bool.or_assoc]
    congr 1
    by_cases hw : j < w
    · by_cases e : k + c = j
      · simp [hw, e]; omega
      · have : (k ≤ j ∧ j < k + c) ↔ (k ≤ j ∧ j < k + (c + 1)) := by omega
        simp [hw, e, this]
    · simp [hw]
end Sys2Proof.Machine
end

