-- ==== Sys2Proof/Laws/State.lean ====
section
/-!
SUPPORT. The small lemmas of the state record: for each shared operation, one lemma for each field, so that no later
proof unfolds a record update; and the reading of a channel or a slot after one has been replaced.
-/

namespace Sys2Proof.Machine

/-! ### One channel, one slot -/

@[simp] theorem State.chan_setChan_self (s : State) (ch : ChannelNo) (c : Channel) : (s.setChan ch c).chan ch = c := by
  simp [State.chan, State.setChan]

theorem State.chan_setChan_ne (s : State) {ch d : ChannelNo} (c : Channel) (h : d ≠ ch) :
    (s.setChan ch c).chan d = s.chan d := by
  have h' : (ch : Nat) ≠ d := fun e => h (Fin.ext e.symm)
  simp [State.chan, State.setChan, h']

@[simp] theorem State.chan_modChan_self (s : State) (ch : ChannelNo) (f : Channel → Channel) :
    (s.modChan ch f).chan ch = f (s.chan ch) := s.chan_setChan_self ch _

theorem State.chan_modChan_ne (s : State) {ch d : ChannelNo} (f : Channel → Channel) (h : d ≠ ch) :
    (s.modChan ch f).chan d = s.chan d := s.chan_setChan_ne _ h

@[simp] theorem State.chan_mapChans (s : State) (f : ChannelNo → Channel → Channel) (ch : ChannelNo) :
    (s.mapChans f).chan ch = f ch (s.chan ch) := by
  simp [State.chan, State.mapChans]

theorem State.chan_congr {s t : State} (h : t.channels = s.channels) (ch : ChannelNo) : t.chan ch = s.chan ch := by
  simp [State.chan, h]

@[simp] theorem State.slot_setSlot_self (s : State) (i : Fin 8) (sl : Slot) : (s.setSlot i sl).store.slots[i] = sl := by
  simp [State.setSlot]

theorem State.slot_setSlot_ne (s : State) {i j : Fin 8} (sl : Slot) (h : j ≠ i) :
    (s.setSlot i sl).store.slots[j] = s.store.slots[j] := by
  have h' : (i : Nat) ≠ j := fun e => h (Fin.ext e.symm)
  simp [State.setSlot, h']

/-! ### The fields of the state after each operation -/

/-! #### `State.reach` -/

@[simp] theorem State.reach_pending (s : State) (t : Nat) : (s.reach t).pending = s.pending := rfl
@[simp] theorem State.reach_now (s : State) (t : Nat) : (s.reach t).now = max s.now t := rfl
@[simp] theorem State.reach_link (s : State) (t : Nat) : (s.reach t).link = s.link := rfl
@[simp] theorem State.reach_tables (s : State) (t : Nat) : (s.reach t).tables = s.tables := rfl
@[simp] theorem State.reach_pool (s : State) (t : Nat) : (s.reach t).pool = s.pool := rfl
@[simp] theorem State.reach_control (s : State) (t : Nat) : (s.reach t).control = s.control := rfl
@[simp] theorem State.reach_store (s : State) (t : Nat) : (s.reach t).store = s.store := rfl
@[simp] theorem State.reach_channels (s : State) (t : Nat) : (s.reach t).channels = s.channels := rfl
@[simp] theorem State.reach_reports (s : State) (t : Nat) : (s.reach t).reports = s.reports := rfl

/-! #### `State.reachTimer` -/

@[simp] theorem State.reachTimer_pending (s : State) (t : Timer) : (s.reachTimer t).pending = s.pending := rfl
@[simp] theorem State.reachTimer_now (s : State) (t : Timer) : (s.reachTimer t).now = max s.now (t.getD 0) := rfl
@[simp] theorem State.reachTimer_link (s : State) (t : Timer) : (s.reachTimer t).link = s.link := rfl
@[simp] theorem State.reachTimer_tables (s : State) (t : Timer) : (s.reachTimer t).tables = s.tables := rfl
@[simp] theorem State.reachTimer_pool (s : State) (t : Timer) : (s.reachTimer t).pool = s.pool := rfl
@[simp] theorem State.reachTimer_control (s : State) (t : Timer) : (s.reachTimer t).control = s.control := rfl
@[simp] theorem State.reachTimer_store (s : State) (t : Timer) : (s.reachTimer t).store = s.store := rfl
@[simp] theorem State.reachTimer_channels (s : State) (t : Timer) : (s.reachTimer t).channels = s.channels := rfl
@[simp] theorem State.reachTimer_reports (s : State) (t : Timer) : (s.reachTimer t).reports = s.reports := rfl

/-! #### `State.idle` -/

@[simp] theorem State.idle_pending (s : State) : (s.idle).pending = s.pending := rfl
@[simp] theorem State.idle_now (s : State) : (s.idle).now = s.now + Config.idleNs := rfl
@[simp] theorem State.idle_link (s : State) : (s.idle).link = s.link := rfl
@[simp] theorem State.idle_tables (s : State) : (s.idle).tables = s.tables := rfl
@[simp] theorem State.idle_pool (s : State) : (s.idle).pool = s.pool := rfl
@[simp] theorem State.idle_control (s : State) : (s.idle).control = s.control := rfl
@[simp] theorem State.idle_store (s : State) : (s.idle).store = s.store := rfl
@[simp] theorem State.idle_channels (s : State) : (s.idle).channels = s.channels := rfl
@[simp] theorem State.idle_reports (s : State) : (s.idle).reports = s.reports := rfl

/-! #### `State.setChan` -/

@[simp] theorem State.setChan_pending (s : State) (ch : ChannelNo) (c : Channel) : (s.setChan ch c).pending = s.pending := rfl
@[simp] theorem State.setChan_now (s : State) (ch : ChannelNo) (c : Channel) : (s.setChan ch c).now = s.now := rfl
@[simp] theorem State.setChan_link (s : State) (ch : ChannelNo) (c : Channel) : (s.setChan ch c).link = s.link := rfl
@[simp] theorem State.setChan_tables (s : State) (ch : ChannelNo) (c : Channel) : (s.setChan ch c).tables = s.tables := rfl
@[simp] theorem State.setChan_pool (s : State) (ch : ChannelNo) (c : Channel) : (s.setChan ch c).pool = s.pool := rfl
@[simp] theorem State.setChan_control (s : State) (ch : ChannelNo) (c : Channel) : (s.setChan ch c).control = s.control := rfl
@[simp] theorem State.setChan_store (s : State) (ch : ChannelNo) (c : Channel) : (s.setChan ch c).store = s.store := rfl
@[simp] theorem State.setChan_channels (s : State) (ch : ChannelNo) (c : Channel) : (s.setChan ch c).channels = s.channels.set ch c := rfl
@[simp] theorem State.setChan_reports (s : State) (ch : ChannelNo) (c : Channel) : (s.setChan ch c).reports = s.reports := rfl

/-! #### `State.modChan` -/

@[simp] theorem State.modChan_pending (s : State) (ch : ChannelNo) (f : Channel → Channel) : (s.modChan ch f).pending = s.pending := rfl
@[simp] theorem State.modChan_now (s : State) (ch : ChannelNo) (f : Channel → Channel) : (s.modChan ch f).now = s.now := rfl
@[simp] theorem State.modChan_link (s : State) (ch : ChannelNo) (f : Channel → Channel) : (s.modChan ch f).link = s.link := rfl
@[simp] theorem State.modChan_tables (s : State) (ch : ChannelNo) (f : Channel → Channel) : (s.modChan ch f).tables = s.tables := rfl
@[simp] theorem State.modChan_pool (s : State) (ch : ChannelNo) (f : Channel → Channel) : (s.modChan ch f).pool = s.pool := rfl
@[simp] theorem State.modChan_control (s : State) (ch : ChannelNo) (f : Channel → Channel) : (s.modChan ch f).control = s.control := rfl
@[simp] theorem State.modChan_store (s : State) (ch : ChannelNo) (f : Channel → Channel) : (s.modChan ch f).store = s.store := rfl
@[simp] theorem State.modChan_channels (s : State) (ch : ChannelNo) (f : Channel → Channel) : (s.modChan ch f).channels = s.channels.set ch (f (s.chan ch)) := rfl
@[simp] theorem State.modChan_reports (s : State) (ch : ChannelNo) (f : Channel → Channel) : (s.modChan ch f).reports = s.reports := rfl

/-! #### `State.mapChans` -/

@[simp] theorem State.mapChans_pending (s : State) (f : ChannelNo → Channel → Channel) : (s.mapChans f).pending = s.pending := rfl
@[simp] theorem State.mapChans_now (s : State) (f : ChannelNo → Channel → Channel) : (s.mapChans f).now = s.now := rfl
@[simp] theorem State.mapChans_link (s : State) (f : ChannelNo → Channel → Channel) : (s.mapChans f).link = s.link := rfl
@[simp] theorem State.mapChans_tables (s : State) (f : ChannelNo → Channel → Channel) : (s.mapChans f).tables = s.tables := rfl
@[simp] theorem State.mapChans_pool (s : State) (f : ChannelNo → Channel → Channel) : (s.mapChans f).pool = s.pool := rfl
@[simp] theorem State.mapChans_control (s : State) (f : ChannelNo → Channel → Channel) : (s.mapChans f).control = s.control := rfl
@[simp] theorem State.mapChans_store (s : State) (f : ChannelNo → Channel → Channel) : (s.mapChans f).store = s.store := rfl
@[simp] theorem State.mapChans_channels (s : State) (f : ChannelNo → Channel → Channel) : (s.mapChans f).channels = Vector.ofFn fun ch => f ch s.channels[ch] := rfl
@[simp] theorem State.mapChans_reports (s : State) (f : ChannelNo → Channel → Channel) : (s.mapChans f).reports = s.reports := rfl

/-! #### `State.modControl` -/

@[simp] theorem State.modControl_pending (s : State) (f : PassControl → PassControl) : (s.modControl f).pending = s.pending := rfl
@[simp] theorem State.modControl_now (s : State) (f : PassControl → PassControl) : (s.modControl f).now = s.now := rfl
@[simp] theorem State.modControl_link (s : State) (f : PassControl → PassControl) : (s.modControl f).link = s.link := rfl
@[simp] theorem State.modControl_tables (s : State) (f : PassControl → PassControl) : (s.modControl f).tables = s.tables := rfl
@[simp] theorem State.modControl_pool (s : State) (f : PassControl → PassControl) : (s.modControl f).pool = s.pool := rfl
@[simp] theorem State.modControl_control (s : State) (f : PassControl → PassControl) : (s.modControl f).control = f s.control := rfl
@[simp] theorem State.modControl_store (s : State) (f : PassControl → PassControl) : (s.modControl f).store = s.store := rfl
@[simp] theorem State.modControl_channels (s : State) (f : PassControl → PassControl) : (s.modControl f).channels = s.channels := rfl
@[simp] theorem State.modControl_reports (s : State) (f : PassControl → PassControl) : (s.modControl f).reports = s.reports := rfl

/-! #### `State.modPass` -/

@[simp] theorem State.modPass_pending (s : State) (f : PassRecord → PassRecord) : (s.modPass f).pending = s.pending := rfl
@[simp] theorem State.modPass_now (s : State) (f : PassRecord → PassRecord) : (s.modPass f).now = s.now := rfl
@[simp] theorem State.modPass_link (s : State) (f : PassRecord → PassRecord) : (s.modPass f).link = s.link := rfl
@[simp] theorem State.modPass_tables (s : State) (f : PassRecord → PassRecord) : (s.modPass f).tables = s.tables := rfl
@[simp] theorem State.modPass_pool (s : State) (f : PassRecord → PassRecord) : (s.modPass f).pool = s.pool := rfl
@[simp] theorem State.modPass_control (s : State) (f : PassRecord → PassRecord) : (s.modPass f).control = { s.control with pass := f s.control.pass } := rfl
@[simp] theorem State.modPass_store (s : State) (f : PassRecord → PassRecord) : (s.modPass f).store = s.store := rfl
@[simp] theorem State.modPass_channels (s : State) (f : PassRecord → PassRecord) : (s.modPass f).channels = s.channels := rfl
@[simp] theorem State.modPass_reports (s : State) (f : PassRecord → PassRecord) : (s.modPass f).reports = s.reports := rfl

/-! #### `State.setSlot` -/

@[simp] theorem State.setSlot_pending (s : State) (i : Fin 8) (sl : Slot) : (s.setSlot i sl).pending = s.pending := rfl
@[simp] theorem State.setSlot_now (s : State) (i : Fin 8) (sl : Slot) : (s.setSlot i sl).now = s.now := rfl
@[simp] theorem State.setSlot_link (s : State) (i : Fin 8) (sl : Slot) : (s.setSlot i sl).link = s.link := rfl
@[simp] theorem State.setSlot_tables (s : State) (i : Fin 8) (sl : Slot) : (s.setSlot i sl).tables = s.tables := rfl
@[simp] theorem State.setSlot_pool (s : State) (i : Fin 8) (sl : Slot) : (s.setSlot i sl).pool = s.pool := rfl
@[simp] theorem State.setSlot_control (s : State) (i : Fin 8) (sl : Slot) : (s.setSlot i sl).control = s.control := rfl
@[simp] theorem State.setSlot_store (s : State) (i : Fin 8) (sl : Slot) : (s.setSlot i sl).store = { s.store with slots := s.store.slots.set i sl } := rfl
@[simp] theorem State.setSlot_channels (s : State) (i : Fin 8) (sl : Slot) : (s.setSlot i sl).channels = s.channels := rfl
@[simp] theorem State.setSlot_reports (s : State) (i : Fin 8) (sl : Slot) : (s.setSlot i sl).reports = s.reports := rfl

/-! #### `State.modLink` -/

@[simp] theorem State.modLink_pending (s : State) (f : LinkPort → LinkPort) : (s.modLink f).pending = s.pending := rfl
@[simp] theorem State.modLink_now (s : State) (f : LinkPort → LinkPort) : (s.modLink f).now = s.now := rfl
@[simp] theorem State.modLink_link (s : State) (f : LinkPort → LinkPort) : (s.modLink f).link = f s.link := rfl
@[simp] theorem State.modLink_tables (s : State) (f : LinkPort → LinkPort) : (s.modLink f).tables = s.tables := rfl
@[simp] theorem State.modLink_pool (s : State) (f : LinkPort → LinkPort) : (s.modLink f).pool = s.pool := rfl
@[simp] theorem State.modLink_control (s : State) (f : LinkPort → LinkPort) : (s.modLink f).control = s.control := rfl
@[simp] theorem State.modLink_store (s : State) (f : LinkPort → LinkPort) : (s.modLink f).store = s.store := rfl
@[simp] theorem State.modLink_channels (s : State) (f : LinkPort → LinkPort) : (s.modLink f).channels = s.channels := rfl
@[simp] theorem State.modLink_reports (s : State) (f : LinkPort → LinkPort) : (s.modLink f).reports = s.reports := rfl

/-! #### `State.dropHead` -/

@[simp] theorem State.dropHead_pending (s : State) : (s.dropHead).pending = s.pending := rfl
@[simp] theorem State.dropHead_now (s : State) : (s.dropHead).now = s.now := rfl
@[simp] theorem State.dropHead_link (s : State) : (s.dropHead).link = { s.link with frames := s.link.frames.eraseP Frame.isReady } := rfl
@[simp] theorem State.dropHead_tables (s : State) : (s.dropHead).tables = s.tables := rfl
@[simp] theorem State.dropHead_pool (s : State) : (s.dropHead).pool = s.pool := rfl
@[simp] theorem State.dropHead_control (s : State) : (s.dropHead).control = s.control := rfl
@[simp] theorem State.dropHead_store (s : State) : (s.dropHead).store = s.store := rfl
@[simp] theorem State.dropHead_channels (s : State) : (s.dropHead).channels = s.channels := rfl
@[simp] theorem State.dropHead_reports (s : State) : (s.dropHead).reports = s.reports := rfl

/-! #### `State.withTables` -/

@[simp] theorem State.withTables_pending (s : State) (t : Tables) : (s.withTables t).pending = s.pending := rfl
@[simp] theorem State.withTables_now (s : State) (t : Tables) : (s.withTables t).now = s.now := rfl
@[simp] theorem State.withTables_link (s : State) (t : Tables) : (s.withTables t).link = s.link := rfl
@[simp] theorem State.withTables_tables (s : State) (t : Tables) : (s.withTables t).tables = t := rfl
@[simp] theorem State.withTables_pool (s : State) (t : Tables) : (s.withTables t).pool = s.pool := rfl
@[simp] theorem State.withTables_control (s : State) (t : Tables) : (s.withTables t).control = s.control := rfl
@[simp] theorem State.withTables_store (s : State) (t : Tables) : (s.withTables t).store = s.store := rfl
@[simp] theorem State.withTables_channels (s : State) (t : Tables) : (s.withTables t).channels = s.channels := rfl
@[simp] theorem State.withTables_reports (s : State) (t : Tables) : (s.withTables t).reports = s.reports := rfl

/-! #### `State.place` -/

@[simp] theorem State.place_pending (s : State) (r : Report) : (s.place r).pending = s.pending := by unfold State.place; split <;> rfl
@[simp] theorem State.place_now (s : State) (r : Report) : (s.place r).now = s.now := by unfold State.place; split <;> rfl
@[simp] theorem State.place_link (s : State) (r : Report) : (s.place r).link = s.link := by unfold State.place; split <;> rfl
@[simp] theorem State.place_tables (s : State) (r : Report) : (s.place r).tables = s.tables := by unfold State.place; split <;> rfl
@[simp] theorem State.place_pool (s : State) (r : Report) : (s.place r).pool = s.pool := by unfold State.place; split <;> rfl
@[simp] theorem State.place_control (s : State) (r : Report) : (s.place r).control = s.control := by unfold State.place; split <;> rfl
@[simp] theorem State.place_store (s : State) (r : Report) : (s.place r).store = s.store := by unfold State.place; split <;> rfl
@[simp] theorem State.place_channels (s : State) (r : Report) : (s.place r).channels = s.channels := by unfold State.place; split <;> rfl
@[simp] theorem State.place_reports (s : State) (r : Report) : (s.place r).reports = if s.reports.length < Config.queueSize then s.reports ++ [r] else s.reports := by unfold State.place; split <;> rfl

/-! #### `State.leaveClaims` -/

@[simp] theorem State.leaveClaims_pending (s : State) (ch : ChannelNo) : (s.leaveClaims ch).pending = s.pending := rfl
@[simp] theorem State.leaveClaims_now (s : State) (ch : ChannelNo) : (s.leaveClaims ch).now = s.now := rfl
@[simp] theorem State.leaveClaims_link (s : State) (ch : ChannelNo) : (s.leaveClaims ch).link = s.link := rfl
@[simp] theorem State.leaveClaims_tables (s : State) (ch : ChannelNo) : (s.leaveClaims ch).tables = s.tables := rfl
@[simp] theorem State.leaveClaims_pool (s : State) (ch : ChannelNo) : (s.leaveClaims ch).pool = s.pool := rfl
@[simp] theorem State.leaveClaims_control (s : State) (ch : ChannelNo) : (s.leaveClaims ch).control = s.control := rfl
@[simp] theorem State.leaveClaims_channels (s : State) (ch : ChannelNo) : (s.leaveClaims ch).channels = s.channels := rfl
@[simp] theorem State.leaveClaims_reports (s : State) (ch : ChannelNo) : (s.leaveClaims ch).reports = s.reports := rfl

/-! #### `State.leaveSource` -/

@[simp] theorem State.leaveSource_pending (s : State) (ch : ChannelNo) (source : Source) : (s.leaveSource ch source).pending = s.pending := by cases source <;> rfl
@[simp] theorem State.leaveSource_now (s : State) (ch : ChannelNo) (source : Source) : (s.leaveSource ch source).now = s.now := by cases source <;> rfl
@[simp] theorem State.leaveSource_link (s : State) (ch : ChannelNo) (source : Source) : (s.leaveSource ch source).link = s.link := by cases source <;> rfl
@[simp] theorem State.leaveSource_tables (s : State) (ch : ChannelNo) (source : Source) : (s.leaveSource ch source).tables = s.tables := by cases source <;> rfl
@[simp] theorem State.leaveSource_pool (s : State) (ch : ChannelNo) (source : Source) : (s.leaveSource ch source).pool = s.pool := by cases source <;> rfl
@[simp] theorem State.leaveSource_control (s : State) (ch : ChannelNo) (source : Source) : (s.leaveSource ch source).control = s.control := by cases source <;> rfl
@[simp] theorem State.leaveSource_channels (s : State) (ch : ChannelNo) (source : Source) : (s.leaveSource ch source).channels = s.channels := by cases source <;> rfl
@[simp] theorem State.leaveSource_reports (s : State) (ch : ChannelNo) (source : Source) : (s.leaveSource ch source).reports = s.reports := by cases source <;> rfl

/-! #### `State.syncStarvation` -/

@[simp] theorem State.syncStarvation_pending (s : State) : (s.syncStarvation).pending = s.pending := rfl
@[simp] theorem State.syncStarvation_now (s : State) : (s.syncStarvation).now = s.now := rfl
@[simp] theorem State.syncStarvation_link (s : State) : (s.syncStarvation).link = s.link := rfl
@[simp] theorem State.syncStarvation_tables (s : State) : (s.syncStarvation).tables = s.tables := rfl
@[simp] theorem State.syncStarvation_pool (s : State) : (s.syncStarvation).pool = s.pool := rfl
@[simp] theorem State.syncStarvation_store (s : State) : (s.syncStarvation).store = s.store := rfl
@[simp] theorem State.syncStarvation_channels (s : State) : (s.syncStarvation).channels = s.channels := rfl
@[simp] theorem State.syncStarvation_reports (s : State) : (s.syncStarvation).reports = s.reports := rfl

/-! #### `State.restartStarvation` -/

@[simp] theorem State.restartStarvation_pending (s : State) : (s.restartStarvation).pending = s.pending := rfl
@[simp] theorem State.restartStarvation_now (s : State) : (s.restartStarvation).now = s.now := rfl
@[simp] theorem State.restartStarvation_link (s : State) : (s.restartStarvation).link = s.link := rfl
@[simp] theorem State.restartStarvation_tables (s : State) : (s.restartStarvation).tables = s.tables := rfl
@[simp] theorem State.restartStarvation_pool (s : State) : (s.restartStarvation).pool = s.pool := rfl
@[simp] theorem State.restartStarvation_store (s : State) : (s.restartStarvation).store = s.store := rfl
@[simp] theorem State.restartStarvation_channels (s : State) : (s.restartStarvation).channels = s.channels := rfl
@[simp] theorem State.restartStarvation_reports (s : State) : (s.restartStarvation).reports = s.reports := rfl

/-! #### `State.closePass` -/

@[simp] theorem State.closePass_pending (s : State) (r : CloseReason) : (s.closePass r).pending = s.pending := rfl
@[simp] theorem State.closePass_now (s : State) (r : CloseReason) : (s.closePass r).now = s.now := rfl
@[simp] theorem State.closePass_link (s : State) (r : CloseReason) : (s.closePass r).link = s.link := rfl
@[simp] theorem State.closePass_tables (s : State) (r : CloseReason) : (s.closePass r).tables = s.tables := rfl
@[simp] theorem State.closePass_pool (s : State) (r : CloseReason) : (s.closePass r).pool = s.pool := rfl
@[simp] theorem State.closePass_store (s : State) (r : CloseReason) : (s.closePass r).store = s.store.cleared := rfl
@[simp] theorem State.closePass_channels (s : State) (r : CloseReason) : (s.closePass r).channels = s.channels := rfl
@[simp] theorem State.closePass_reports (s : State) (r : CloseReason) : (s.closePass r).reports = s.reports := rfl

/-! #### `State.endCopyOnly` -/

@[simp] theorem State.endCopyOnly_pending (s : State) (ch : ChannelNo) (e : CopyEnd) : (s.endCopyOnly ch e).pending = s.pending := rfl
@[simp] theorem State.endCopyOnly_now (s : State) (ch : ChannelNo) (e : CopyEnd) : (s.endCopyOnly ch e).now = s.now := rfl
@[simp] theorem State.endCopyOnly_link (s : State) (ch : ChannelNo) (e : CopyEnd) : (s.endCopyOnly ch e).link = s.link := rfl
@[simp] theorem State.endCopyOnly_tables (s : State) (ch : ChannelNo) (e : CopyEnd) : (s.endCopyOnly ch e).tables = s.tables := rfl
@[simp] theorem State.endCopyOnly_pool (s : State) (ch : ChannelNo) (e : CopyEnd) : (s.endCopyOnly ch e).pool = poolAfterEnd s.pool (s.chan ch).bound (e.disposition s.job.serialPolicy) := rfl
@[simp] theorem State.endCopyOnly_control (s : State) (ch : ChannelNo) (e : CopyEnd) : (s.endCopyOnly ch e).control = s.control.takeEnd ch e := rfl
@[simp] theorem State.endCopyOnly_store (s : State) (ch : ChannelNo) (e : CopyEnd) : (s.endCopyOnly ch e).store = (s.leaveClaims ch).store := rfl
@[simp] theorem State.endCopyOnly_channels (s : State) (ch : ChannelNo) (e : CopyEnd) : (s.endCopyOnly ch e).channels = s.channels.set ch ((s.chan ch).ended ch e s.job.serialPolicy s.now) := rfl
@[simp] theorem State.endCopyOnly_reports (s : State) (ch : ChannelNo) (e : CopyEnd) : (s.endCopyOnly ch e).reports = s.reports := rfl

/-! #### `State.setAttempt` -/

@[simp] theorem State.setAttempt_pending (s : State) (ch : ChannelNo) (a : Attempt) : (s.setAttempt ch a).pending = s.pending := rfl
@[simp] theorem State.setAttempt_now (s : State) (ch : ChannelNo) (a : Attempt) : (s.setAttempt ch a).now = s.now := rfl
@[simp] theorem State.setAttempt_link (s : State) (ch : ChannelNo) (a : Attempt) : (s.setAttempt ch a).link = s.link := rfl
@[simp] theorem State.setAttempt_tables (s : State) (ch : ChannelNo) (a : Attempt) : (s.setAttempt ch a).tables = s.tables := rfl
@[simp] theorem State.setAttempt_pool (s : State) (ch : ChannelNo) (a : Attempt) : (s.setAttempt ch a).pool = s.pool := rfl
@[simp] theorem State.setAttempt_control (s : State) (ch : ChannelNo) (a : Attempt) : (s.setAttempt ch a).control = s.control := rfl
@[simp] theorem State.setAttempt_store (s : State) (ch : ChannelNo) (a : Attempt) : (s.setAttempt ch a).store = s.store := rfl
@[simp] theorem State.setAttempt_channels (s : State) (ch : ChannelNo) (a : Attempt) : (s.setAttempt ch a).channels = s.channels.set ch { s.chan ch with attempt := some a } := rfl
@[simp] theorem State.setAttempt_reports (s : State) (ch : ChannelNo) (a : Attempt) : (s.setAttempt ch a).reports = s.reports := rfl

/-! #### `State.seeProtect` -/

@[simp] theorem State.seeProtect_pending (s : State) (ch : ChannelNo) (b : Bool) : (s.seeProtect ch b).pending = s.pending := rfl
@[simp] theorem State.seeProtect_now (s : State) (ch : ChannelNo) (b : Bool) : (s.seeProtect ch b).now = s.now := rfl
@[simp] theorem State.seeProtect_link (s : State) (ch : ChannelNo) (b : Bool) : (s.seeProtect ch b).link = s.link := rfl
@[simp] theorem State.seeProtect_tables (s : State) (ch : ChannelNo) (b : Bool) : (s.seeProtect ch b).tables = s.tables := rfl
@[simp] theorem State.seeProtect_pool (s : State) (ch : ChannelNo) (b : Bool) : (s.seeProtect ch b).pool = s.pool := rfl
@[simp] theorem State.seeProtect_control (s : State) (ch : ChannelNo) (b : Bool) : (s.seeProtect ch b).control = s.control := rfl
@[simp] theorem State.seeProtect_store (s : State) (ch : ChannelNo) (b : Bool) : (s.seeProtect ch b).store = s.store := rfl
@[simp] theorem State.seeProtect_reports (s : State) (ch : ChannelNo) (b : Bool) : (s.seeProtect ch b).reports = s.reports := rfl

/-! #### `State.seeMedia` -/

@[simp] theorem State.seeMedia_pending (s : State) (ch : ChannelNo) (b : Bool) : (s.seeMedia ch b).pending = s.pending := rfl
@[simp] theorem State.seeMedia_now (s : State) (ch : ChannelNo) (b : Bool) : (s.seeMedia ch b).now = s.now := rfl
@[simp] theorem State.seeMedia_link (s : State) (ch : ChannelNo) (b : Bool) : (s.seeMedia ch b).link = s.link := rfl
@[simp] theorem State.seeMedia_tables (s : State) (ch : ChannelNo) (b : Bool) : (s.seeMedia ch b).tables = s.tables := rfl
@[simp] theorem State.seeMedia_pool (s : State) (ch : ChannelNo) (b : Bool) : (s.seeMedia ch b).pool = s.pool := rfl
@[simp] theorem State.seeMedia_control (s : State) (ch : ChannelNo) (b : Bool) : (s.seeMedia ch b).control = s.control := rfl
@[simp] theorem State.seeMedia_store (s : State) (ch : ChannelNo) (b : Bool) : (s.seeMedia ch b).store = s.store := rfl
@[simp] theorem State.seeMedia_reports (s : State) (ch : ChannelNo) (b : Bool) : (s.seeMedia ch b).reports = s.reports := rfl

/-! #### `State.setJob` -/

@[simp] theorem State.setJob_pending (s : State) (j : Job) : (s.setJob j).pending = s.pending := rfl
@[simp] theorem State.setJob_now (s : State) (j : Job) : (s.setJob j).now = s.now := rfl
@[simp] theorem State.setJob_link (s : State) (j : Job) : (s.setJob j).link = s.link := rfl
@[simp] theorem State.setJob_tables (s : State) (j : Job) : (s.setJob j).tables = s.tables := rfl
@[simp] theorem State.setJob_pool (s : State) (j : Job) : (s.setJob j).pool = s.pool := rfl
@[simp] theorem State.setJob_control (s : State) (j : Job) : (s.setJob j).control = { s.control with job := some j, jobPassed := 0, copyNumber := 1 } := rfl
@[simp] theorem State.setJob_store (s : State) (j : Job) : (s.setJob j).store = s.store := rfl
@[simp] theorem State.setJob_channels (s : State) (j : Job) : (s.setJob j).channels = s.channels := rfl
@[simp] theorem State.setJob_reports (s : State) (j : Job) : (s.setJob j).reports = s.reports := rfl

/-! #### `State.hunt` -/

@[simp] theorem State.hunt_pending (s : State) : (s.hunt).pending = s.pending := rfl
@[simp] theorem State.hunt_now (s : State) : (s.hunt).now = s.now := rfl
@[simp] theorem State.hunt_link (s : State) : (s.hunt).link = { s.link with reception := none } := rfl
@[simp] theorem State.hunt_tables (s : State) : (s.hunt).tables = s.tables := rfl
@[simp] theorem State.hunt_pool (s : State) : (s.hunt).pool = s.pool := rfl
@[simp] theorem State.hunt_control (s : State) : (s.hunt).control = s.control := rfl
@[simp] theorem State.hunt_store (s : State) : (s.hunt).store = s.store := rfl
@[simp] theorem State.hunt_channels (s : State) : (s.hunt).channels = s.channels := rfl
@[simp] theorem State.hunt_reports (s : State) : (s.hunt).reports = s.reports := rfl

/-! #### `State.countError` -/

@[simp] theorem State.countError_pending (s : State) : (s.countError).pending = s.pending := rfl
@[simp] theorem State.countError_now (s : State) : (s.countError).now = s.now := rfl
@[simp] theorem State.countError_link (s : State) : (s.countError).link = { s.link with receptionErrors := countUp s.link.receptionErrors } := rfl
@[simp] theorem State.countError_tables (s : State) : (s.countError).tables = s.tables := rfl
@[simp] theorem State.countError_pool (s : State) : (s.countError).pool = s.pool := rfl
@[simp] theorem State.countError_control (s : State) : (s.countError).control = s.control := rfl
@[simp] theorem State.countError_store (s : State) : (s.countError).store = s.store := rfl
@[simp] theorem State.countError_channels (s : State) : (s.countError).channels = s.channels := rfl
@[simp] theorem State.countError_reports (s : State) : (s.countError).reports = s.reports := rfl

/-! #### `State.dropReceiving` -/

@[simp] theorem State.dropReceiving_pending (s : State) : (s.dropReceiving).pending = s.pending := rfl
@[simp] theorem State.dropReceiving_now (s : State) : (s.dropReceiving).now = s.now := rfl
@[simp] theorem State.dropReceiving_tables (s : State) : (s.dropReceiving).tables = s.tables := rfl
@[simp] theorem State.dropReceiving_pool (s : State) : (s.dropReceiving).pool = s.pool := rfl
@[simp] theorem State.dropReceiving_control (s : State) : (s.dropReceiving).control = s.control := rfl
@[simp] theorem State.dropReceiving_store (s : State) : (s.dropReceiving).store = s.store := rfl
@[simp] theorem State.dropReceiving_channels (s : State) : (s.dropReceiving).channels = s.channels := rfl
@[simp] theorem State.dropReceiving_reports (s : State) : (s.dropReceiving).reports = s.reports := rfl

/-! #### `State.modReceiving` -/

@[simp] theorem State.modReceiving_pending (s : State) (f : Frame → Frame) : (s.modReceiving f).pending = s.pending := rfl
@[simp] theorem State.modReceiving_now (s : State) (f : Frame → Frame) : (s.modReceiving f).now = s.now := rfl
@[simp] theorem State.modReceiving_tables (s : State) (f : Frame → Frame) : (s.modReceiving f).tables = s.tables := rfl
@[simp] theorem State.modReceiving_pool (s : State) (f : Frame → Frame) : (s.modReceiving f).pool = s.pool := rfl
@[simp] theorem State.modReceiving_control (s : State) (f : Frame → Frame) : (s.modReceiving f).control = s.control := rfl
@[simp] theorem State.modReceiving_store (s : State) (f : Frame → Frame) : (s.modReceiving f).store = s.store := rfl
@[simp] theorem State.modReceiving_channels (s : State) (f : Frame → Frame) : (s.modReceiving f).channels = s.channels := rfl
@[simp] theorem State.modReceiving_reports (s : State) (f : Frame → Frame) : (s.modReceiving f).reports = s.reports := rfl

/-! #### `State.receiving` -/

@[simp] theorem State.receiving_pending (s : State) (r : Reception) : (s.receiving r).pending = s.pending := rfl
@[simp] theorem State.receiving_now (s : State) (r : Reception) : (s.receiving r).now = s.now := rfl
@[simp] theorem State.receiving_link (s : State) (r : Reception) : (s.receiving r).link = { s.link with reception := some r } := rfl
@[simp] theorem State.receiving_tables (s : State) (r : Reception) : (s.receiving r).tables = s.tables := rfl
@[simp] theorem State.receiving_pool (s : State) (r : Reception) : (s.receiving r).pool = s.pool := rfl
@[simp] theorem State.receiving_control (s : State) (r : Reception) : (s.receiving r).control = s.control := rfl
@[simp] theorem State.receiving_store (s : State) (r : Reception) : (s.receiving r).store = s.store := rfl
@[simp] theorem State.receiving_channels (s : State) (r : Reception) : (s.receiving r).channels = s.channels := rfl
@[simp] theorem State.receiving_reports (s : State) (r : Reception) : (s.receiving r).reports = s.reports := rfl

end Sys2Proof.Machine
end

