-- ==== Sys2Proof/Laws/Copies.lean ====
section
/-!
SUPPORT. What the end of a copy can do (Machine/Copies.lean): the waking of a waiting segment, the closing of the pass,
and the fields of the state after the whole.
-/

namespace Sys2Proof.Machine

/-- A slot whose present set is full completes; else nothing happens. -/
theorem State.completeIfFull_eq (s : State) (i : Fin 8) :
    s.completeIfFull i =
      if s.store.slots[i].full s.layout then
        (s.setSlot i { s.store.slots[i] with state := .complete }).mapChans fun ch c =>
          c.trackReady (setHas s.store.slots[i].claims ch) s.store.slots[i].track s.now
      else s := rfl

/-- A slot with no claims tells no channel that its track is ready. -/
theorem State.completeIfFull_of_no_claims (s : State) (i : Fin 8) (h : s.store.slots[i].claims = 0) :
    (s.completeIfFull i).channels = s.channels := by
  rw [State.completeIfFull_eq]
  split
  · apply Vector.ext
    intro k hk
    have h' : s.store.slots[(i : Nat)].claims = 0 := h
    simp [State.mapChans, State.setSlot, Channel.trackReady, h']
  · rfl

/-- The completion of a slot changes the store and the channels alone. -/
theorem State.completeIfFull_fields (s : State) (i : Fin 8) :
    (s.completeIfFull i).pending = s.pending ∧ (s.completeIfFull i).now = s.now ∧ (s.completeIfFull i).link = s.link ∧
      (s.completeIfFull i).tables = s.tables ∧ (s.completeIfFull i).pool = s.pool ∧
      (s.completeIfFull i).control = s.control ∧ (s.completeIfFull i).reports = s.reports := by
  rw [State.completeIfFull_eq]
  split <;> exact ⟨rfl, rfl, rfl, rfl, rfl, rfl, rfl⟩

/-- A segment taken into a slot changes the store, the starvation timer and the channels alone. -/
theorem State.acceptSegment_fields (s : State) (i : Fin 8) (body : List Byte) :
    (s.acceptSegment i body).pending = s.pending ∧ (s.acceptSegment i body).now = s.now ∧
      (s.acceptSegment i body).link = s.link ∧ (s.acceptSegment i body).tables = s.tables ∧
      (s.acceptSegment i body).pool = s.pool ∧ (s.acceptSegment i body).reports = s.reports ∧
      ∃ timer, (s.acceptSegment i body).control = { s.control with starvation := timer } := by
  obtain ⟨h1, h2, h3, h4, h5, h6, h7⟩ :=
    (s.setSlot i (s.store.slots[i].written s.layout body)).restartStarvation.completeIfFull_fields i
  refine ⟨h1, h2, h3, h4, h5, h7, ?_⟩
  exact ⟨_, show PassControl.mk _ _ _ _ _ = _ by rw [h6]; rfl⟩

/-- The waking of a waiting segment where no channel is live: the store, the frame it may take and the starvation timer
change, and nothing else. -/
theorem State.wakeSegment_fields (s before : State) (live : s.control.pass.live = 0) :
    (s.wakeSegment before).pending = s.pending ∧ (s.wakeSegment before).now = s.now ∧
      (s.wakeSegment before).tables = s.tables ∧ (s.wakeSegment before).pool = s.pool ∧
      (s.wakeSegment before).reports = s.reports ∧ (s.wakeSegment before).channels = s.channels ∧
      (∃ timer, (s.wakeSegment before).control = { s.control with starvation := timer }) ∧
      ((s.wakeSegment before).link = s.link ∨
        (∃ f, before.headFrame = some f ∧ before.segmentWaits f = true) ∧ (s.wakeSegment before).link = s.dropHead.link) := by
  unfold State.wakeSegment State.takeWoken
  split
  · exact ⟨rfl, rfl, rfl, rfl, rfl, rfl, ⟨_, rfl⟩, .inl rfl⟩
  · rename_i f hf
    split
    · rename_i hw
      dsimp only
      split
      · split
        · exact ⟨rfl, rfl, rfl, rfl, rfl, rfl, ⟨_, rfl⟩, .inl rfl⟩
        · rename_i i _
          generalize hr : State.allocate _ i _ = r
          have hc : r.channels = s.channels := by subst hr; rfl
          have hl : r.link = s.link := by subst hr; rfl
          obtain ⟨h1, h2, h3, h4, h5, h6, timer, h7⟩ := r.acceptSegment_fields i f.body
          refine ⟨?_, ?_, ?_, ?_, ?_, ?_, ⟨timer, ?_⟩, .inr ⟨⟨f, hf, hw.1⟩, ?_⟩⟩
          · rw [State.dropHead_pending, h1, ← hr]; rfl
          · rw [State.dropHead_now, h2, ← hr]; rfl
          · rw [State.dropHead_tables, h4, ← hr]; rfl
          · rw [State.dropHead_pool, h5, ← hr]; rfl
          · rw [State.dropHead_reports, h6, ← hr]; rfl
          · rw [State.dropHead_channels]
            show (State.completeIfFull _ i).channels = _
            rw [State.completeIfFull_of_no_claims]
            · exact hc
            · subst hr
              simp [State.restartStarvation, State.modControl, State.setSlot, State.allocate, Slot.written,
                Slot.allocated, live]
          · rw [State.dropHead_control, h7, ← hr]; rfl
          · rw [State.dropHead_link, h3, hl]; rfl
      · exact ⟨rfl, rfl, rfl, rfl, rfl, rfl, ⟨_, rfl⟩, .inl rfl⟩
    · exact ⟨rfl, rfl, rfl, rfl, rfl, rfl, ⟨_, rfl⟩, .inl rfl⟩

/-- The end of a pass with its last copy: the waking leaves nothing behind but the frame it may have taken. -/
theorem State.closeIfOver_cases (s before : State) :
    (s.closeIfOver before = s ∧ (s.passOpen = false ∨ s.control.pass.live ≠ 0)) ∨
      (s.passOpen = true ∧ s.control.pass.live = 0 ∧ s.closeIfOver before = (s.wakeSegment before).closePass .completed) := by
  unfold State.closeIfOver
  by_cases h : (s.passOpen && s.control.pass.live == 0) = true
  · rw [if_pos h]
    simp at h
    exact .inr ⟨h.1, h.2, rfl⟩
  · rw [if_neg h]
    simp at h
    refine .inl ⟨rfl, ?_⟩
    cases e : s.passOpen
    · exact .inl rfl
    · exact .inr (h e)

end Sys2Proof.Machine
end

