-- ==== Sys2Proof/Laws/Ends.lean ====
section
/-!
SUPPORT. The end of a copy and the abort of a pass, said once: `State.endCopy` comes to CopyEnded, a failed attempt to
AttemptLost, and `State.abortPass` to PassEnded (Safety.lean).
-/

namespace Sys2Proof.Machine

/-- The fields of the state after the end of a copy that the closing of the pass does not touch. -/
theorem State.endCopy_fields (s : State) (ch : ChannelNo) (e : CopyEnd) :
    (s.endCopy ch e).pending = s.pending ∧ (s.endCopy ch e).now = s.now ∧ (s.endCopy ch e).tables = s.tables ∧
      (s.endCopy ch e).pool = poolAfterEnd s.pool (s.chan ch).bound (e.disposition s.job.serialPolicy) ∧
      (s.endCopy ch e).reports = s.reports ∧
      (s.endCopy ch e).channels = s.channels.set ch ((s.chan ch).ended ch e s.job.serialPolicy s.now) := by
  unfold State.endCopy
  simp only [State.syncStarvation_pending, State.syncStarvation_now, State.syncStarvation_tables,
    State.syncStarvation_pool, State.syncStarvation_reports, State.syncStarvation_channels]
  rcases (s.endCopyOnly ch e).closeIfOver_cases s with ⟨h, -⟩ | ⟨-, h0, h⟩
  · rw [h]; exact ⟨rfl, rfl, rfl, rfl, rfl, rfl⟩
  · rw [h]
    obtain ⟨h1, h2, h3, h4, h5, h6, -⟩ := (s.endCopyOnly ch e).wakeSegment_fields s h0
    exact ⟨h1, h2, h3, h4, h5, h6⟩

@[simp] theorem State.endCopy_pending (s : State) (ch : ChannelNo) (e : CopyEnd) :
    (s.endCopy ch e).pending = s.pending := (s.endCopy_fields ch e).1

@[simp] theorem State.endCopy_now (s : State) (ch : ChannelNo) (e : CopyEnd) :
    (s.endCopy ch e).now = s.now := (s.endCopy_fields ch e).2.1

@[simp] theorem State.endCopy_tables (s : State) (ch : ChannelNo) (e : CopyEnd) :
    (s.endCopy ch e).tables = s.tables := (s.endCopy_fields ch e).2.2.1

@[simp] theorem State.endCopy_pool (s : State) (ch : ChannelNo) (e : CopyEnd) : (s.endCopy ch e).pool =
    poolAfterEnd s.pool (s.chan ch).bound (e.disposition s.job.serialPolicy) := (s.endCopy_fields ch e).2.2.2.1

@[simp] theorem State.endCopy_reports (s : State) (ch : ChannelNo) (e : CopyEnd) :
    (s.endCopy ch e).reports = s.reports := (s.endCopy_fields ch e).2.2.2.2.1

theorem State.endCopy_chan_self (s : State) (ch : ChannelNo) (e : CopyEnd) :
    (s.endCopy ch e).chan ch = (s.chan ch).ended ch e s.job.serialPolicy s.now := by
  simp [State.chan, (s.endCopy_fields ch e).2.2.2.2.2]

theorem State.endCopy_chan_ne (s : State) {ch d : ChannelNo} (e : CopyEnd) (h : d ≠ ch) :
    (s.endCopy ch e).chan d = s.chan d := by
  have h' : (ch : Nat) ≠ d := fun x => h (Fin.ext x.symm)
  simp [State.chan, (s.endCopy_fields ch e).2.2.2.2.2, h']

/-- The layout in force is the job's entry. -/
theorem State.layout_congr {s t : State} (hj : t.control.job = s.control.job) (ht : t.tables = s.tables) :
    t.layout = s.layout := by
  simp only [State.layout, hj, ht]

@[simp] theorem PassControl.takeEnd_job (p : PassControl) (ch : ChannelNo) (e : CopyEnd) :
    (p.takeEnd ch e).job = p.job := by cases e <;> rfl

@[simp] theorem PassControl.takeEnd_copyNumber (p : PassControl) (ch : ChannelNo) (e : CopyEnd) :
    (p.takeEnd ch e).copyNumber = p.copyNumber := by cases e <;> rfl

@[simp] theorem PassControl.takeEnd_starvation (p : PassControl) (ch : ChannelNo) (e : CopyEnd) :
    (p.takeEnd ch e).starvation = p.starvation := by cases e <;> rfl

theorem PassControl.takeEnd_jobPassed (p : PassControl) (ch : ChannelNo) (e : CopyEnd) :
    (p.takeEnd ch e).jobPassed = if e = .passed then min 65535 (p.jobPassed + 1) else p.jobPassed := by
  cases e <;> simp [PassControl.takeEnd, countUp]

theorem PassControl.takeEnd_pass (p : PassControl) (ch : ChannelNo) (e : CopyEnd) :
    (p.takeEnd ch e).pass =
      { p.pass with
        live := setDrop p.pass.live ch
        passed := p.pass.passed + if e = .passed then 1 else 0
        failed := p.pass.failed + if e = .passed then 0 else 1 } := by
  cases e <;> simp [PassControl.takeEnd]

@[simp] theorem State.syncStarvation_pass (s : State) : s.syncStarvation.control.pass = s.control.pass := rfl
@[simp] theorem State.syncStarvation_job (s : State) : s.syncStarvation.control.job = s.control.job := rfl
@[simp] theorem State.syncStarvation_jobPassed (s : State) :
    s.syncStarvation.control.jobPassed = s.control.jobPassed := rfl
@[simp] theorem State.syncStarvation_copyNumber (s : State) :
    s.syncStarvation.control.copyNumber = s.control.copyNumber := rfl
@[simp] theorem State.closePass_pass (s : State) (r : CloseReason) : (s.closePass r).control.pass =
    { s.control.pass with state := .idle, closeReason := some r, closure := some (s.closureReport r) } := rfl
@[simp] theorem State.closePass_job (s : State) (r : CloseReason) : (s.closePass r).control.job = s.control.job := rfl
@[simp] theorem State.closePass_jobPassed (s : State) (r : CloseReason) :
    (s.closePass r).control.jobPassed = s.control.jobPassed := rfl
@[simp] theorem State.closePass_copyNumber (s : State) (r : CloseReason) :
    (s.closePass r).control.copyNumber = s.control.copyNumber := rfl

/-- The starvation timer follows its conditions (R56). -/
theorem State.syncStarvation_timer (s : State) : s.syncStarvation.control.starvation =
    if s.syncStarvation.starving then
      some (s.control.starvation.getD (s.now + s.syncStarvation.job.starvationTimeout * 1000000000)) else none := rfl

/-- The freeing of every slot leaves the data areas. -/
theorem State.closePass_data (s : State) (r : CloseReason) (i : Fin 8) :
    (s.closePass r).store.slots[i].data = s.store.slots[i].data := by
  simp [TrackStore.cleared, Slot.freed]

/-- The completion of a slot leaves the data areas. -/
theorem State.completeIfFull_data (s : State) (i j : Fin 8) :
    (s.completeIfFull i).store.slots[j].data = s.store.slots[j].data := by
  rw [State.completeIfFull_eq]
  split
  · show ((s.setSlot i { s.store.slots[i] with state := .complete }).store.slots[j]).data = _
    by_cases h : j = i
    · subst h; simp [State.setSlot]
    · rw [State.slot_setSlot_ne s _ h]
  · rfl

/-- A segment taken into a slot writes its bytes there, and nowhere else. -/
theorem State.acceptSegment_data (s : State) (i j : Fin 8) (body : List Byte) :
    (s.acceptSegment i body).store.slots[j].data =
      if j = i then memWrite s.store.slots[i].data (num1 body 2 * s.layout.size) (body.drop 4)
      else s.store.slots[j].data := by
  show (State.completeIfFull _ i).store.slots[j].data = _
  rw [State.completeIfFull_data]
  by_cases h : j = i
  · subst h; simp [State.setSlot, Slot.written, State.restartStarvation, State.modControl]
  · rw [if_neg h]
    show ((s.setSlot i (s.store.slots[i].written s.layout body)).store.slots[j]).data = _
    rw [State.slot_setSlot_ne s _ h]

/-- The lowest-numbered slot with a property. -/
theorem State.findSlot_some {s : State} {p : Slot → Bool} {i : Fin 8} (h : s.findSlot p = some i) :
    p s.store.slots[i] = true ∧ ∀ j : Fin 8, j < i → p s.store.slots[j] = false := by
  obtain ⟨h1, l, r, hl, h2⟩ := List.find?_eq_some_iff_append.1 h
  refine ⟨h1, fun j hj => ?_⟩
  have : j ∈ l := by
    have hj' : j ∈ channelsUp := (by decide : ∀ k : Fin 8, k ∈ channelsUp) j
    have up : channelsUp.Pairwise (· < ·) := by decide
    rw [hl] at hj' up
    rcases List.mem_append.1 hj' with h | h
    · exact h
    · exfalso
      have := (List.pairwise_append.1 up).2.1
      rcases List.mem_cons.1 h with h | h
      · exact absurd hj (by rw [h]; exact Fin.lt_irrefl _)
      · exact absurd (Fin.lt_trans hj ((List.pairwise_cons.1 this).1 j h)) (Fin.lt_irrefl _)
  simpa using h2 j this

theorem State.findSlot_none {s : State} {p : Slot → Bool} (h : s.findSlot p = none) (i : Fin 8) :
    p s.store.slots[i] = false := by
  have := List.find?_eq_none.1 h i (by revert i; decide)
  simpa using this

/-- The frame buffer and the data areas after the closure of a pass by a copy's end: as they were, or the waking segment
was taken first. -/
theorem State.wakeSegment_woken (s : State) (ch : ChannelNo) (e : CopyEnd) {t : State}
    (ht : t = ((s.endCopyOnly ch e).wakeSegment s).closePass .completed) :
    (t.link = s.link ∧ SameData s t) ∨ WokenFirst s t ch := by
  subst ht
  have same : ∀ i : Fin 8, (s.endCopyOnly ch e).store.slots[i] = s.store.slots[i].release ch := by
    intro i; simp [State.leaveClaims]
  have kept : ∀ i : Fin 8, (s.store.slots[i].release ch).data = s.store.slots[i].data := by
    intro i; unfold Slot.release; split
    · split <;> rfl
    · rfl
  have data : ∀ i : Fin 8, (s.endCopyOnly ch e).store.slots[i].data = s.store.slots[i].data := by
    intro i; rw [same, kept]
  have plain : ∀ r : State, r.link = s.link → r.store.slots = (s.endCopyOnly ch e).store.slots →
      ((r.closePass .completed).link = s.link ∧ SameData s (r.closePass .completed)) := by
    intro r hl hs
    refine ⟨hl, fun i a => ?_⟩
    rw [State.closePass_data]
    have : r.store.slots[i] = s.store.slots[i].release ch := by
      rw [← same]; simp [hs]
    rw [this, kept]
  unfold State.wakeSegment State.takeWoken
  split
  · exact .inl (plain _ rfl rfl)
  · rename_i f hf
    split
    · rename_i hw
      dsimp only
      split
      · split
        · exact .inl (plain _ rfl rfl)
        · rename_i i hi
          obtain ⟨free, least⟩ := State.findSlot_some hi
          refine .inr ⟨f, i, hf, hw.1, ?_, ?_, ?_, ?_, ?_⟩
          · rw [State.closePass_link, State.dropHead_link, (State.acceptSegment_fields _ _ _).2.2.1]; rfl
          · rw [← same]; simpa using free
          · intro j hj; rw [← same]; simpa using least j hj
          · intro j hj a
            have hj' : (i : Nat) ≠ j := fun x => hj (Fin.ext x.symm)
            rw [State.closePass_data, State.dropHead_store, State.acceptSegment_data, if_neg hj, ← data j]
            simp [State.allocate, hj']
          · intro a
            rw [State.closePass_data, State.dropHead_store, State.acceptSegment_data, if_pos rfl, ← data i]
            generalize hr : State.allocate _ i _ = r
            have hl : r.layout = s.layout := State.layout_congr (by subst hr; simp [State.allocate]) (by subst hr; rfl)
            have hd : r.store.slots[i].data = (s.endCopyOnly ch e).store.slots[i].data := by
              subst hr; simp [State.allocate, Slot.allocated]
            rw [hl, hd]
      · exact .inl (plain _ rfl rfl)
    · exact .inl (plain _ rfl rfl)

/-- What the channel does at the end of its copy, as one record. -/
theorem Channel.ended_reported (c : Channel) (ch : ChannelNo) (e : CopyEnd) (policy : SerialPolicy) (now : Nat)
    {r : CopyRecord} (hr : c.copy = some r) :
    c.ended ch e policy now = c.reported ch
      (r.closed e policy (if e = .passed ∨ c.state = .recalibrating then none else c.cursor)) now := by
  have d : r.decided e c policy =
      r.closed e policy (if e = .passed ∨ c.state = .recalibrating then none else c.cursor) := by
    cases e <;> simp [CopyRecord.decided, CopyRecord.closed, CopyEnd.failingTrack]
  unfold Channel.ended
  rw [hr, Option.getD_some, d]
  have on : ChState.reporting.motor = true := rfl
  simp [Channel.reported, Channel.enter, Channel.applyPending, Channel.hold, Channel.dropAttempt, on]

/-- The end of a copy (R78) comes to CopyEnded. -/
theorem State.endCopy_ended (s : State) (ch : ChannelNo) (e : CopyEnd) :
    CopyEnded s (s.endCopy ch e) ch e := by
  have kept : ∀ i : Fin 8, (s.store.slots[i].release ch).data = s.store.slots[i].data := by
    intro i; unfold Slot.release; split
    · split <;> rfl
    · rfl
  have same : ∀ i : Fin 8, (s.endCopyOnly ch e).store.slots[i] = s.store.slots[i].release ch := by
    intro i; simp [State.leaveClaims]
  have self := s.endCopy_chan_self ch e
  refine ⟨?_, ?_, ?_, ?_, ?_, ?_, ?_, fun d h => s.endCopy_chan_ne e h, by simp⟩
  · intro r hr
    rw [self, Channel.ended_reported _ _ _ _ _ hr]
  · rcases (s.endCopyOnly ch e).closeIfOver_cases s with ⟨h, -⟩ | ⟨-, h0, h⟩
    · rw [State.endCopy, h]; simp [PassControl.takeEnd_pass]
    · obtain ⟨-, -, -, -, -, -, ⟨timer, h7⟩, -⟩ := (s.endCopyOnly ch e).wakeSegment_fields s h0
      rw [State.endCopy, h]; simp [h7, PassControl.takeEnd_pass]
  · rcases (s.endCopyOnly ch e).closeIfOver_cases s with ⟨h, -⟩ | ⟨-, h0, h⟩
    · rw [State.endCopy, h]; simp [PassControl.takeEnd_pass, PassControl.takeEnd_jobPassed]
    · obtain ⟨-, -, -, -, -, -, ⟨timer, h7⟩, -⟩ := (s.endCopyOnly ch e).wakeSegment_fields s h0
      rw [State.endCopy, h]; simp [h7, PassControl.takeEnd_pass, PassControl.takeEnd_jobPassed]
  · rcases (s.endCopyOnly ch e).closeIfOver_cases s with ⟨h, -⟩ | ⟨-, h0, h⟩
    · rw [State.endCopy, h]; simp [PassControl.takeEnd_pass]
    · obtain ⟨-, -, -, -, -, -, ⟨timer, h7⟩, -⟩ := (s.endCopyOnly ch e).wakeSegment_fields s h0
      rw [State.endCopy, h]; simp [h7, PassControl.takeEnd_pass]
  · have op : (s.endCopyOnly ch e).passOpen = s.passOpen := by
      simp [State.passOpen, PassControl.takeEnd_pass]
    have lv : (s.endCopyOnly ch e).control.pass.live = setDrop s.control.pass.live ch := by
      simp [PassControl.takeEnd_pass]
    rcases (s.endCopyOnly ch e).closeIfOver_cases s with ⟨h, hn⟩ | ⟨h1, h0, h⟩
    · rw [if_neg (by rw [op, lv] at hn; rcases hn with hn | hn <;> rintro ⟨h1, h2⟩ <;> simp_all)]
      refine ⟨?_, ?_, ?_, ?_, fun i => ?_, ?_, fun i a => ?_⟩
      · rw [State.endCopy, h]; simp [PassControl.takeEnd_pass]
      · rw [State.endCopy, h]; simp [PassControl.takeEnd_pass]
      · rw [State.endCopy, h]; simp [PassControl.takeEnd_pass]
      · rw [State.endCopy, h]; rfl
      · rw [← same, State.endCopy, h]; rfl
      · rw [State.endCopy, h]; rfl
      · have : (s.endCopy ch e).store.slots[i] = s.store.slots[i].release ch := by
          rw [← same, State.endCopy, h]; rfl
        rw [this, kept]
    · rw [if_pos (by rw [← op, ← lv]; exact ⟨h1, h0⟩)]
      have hw := s.wakeSegment_woken ch e rfl
      obtain ⟨-, -, -, -, -, -, ⟨timer, h7⟩, -⟩ := (s.endCopyOnly ch e).wakeSegment_fields s h0
      have job : (((s.endCopyOnly ch e).wakeSegment s)).job = s.job := by simp [State.job, h7]
      rw [State.endCopy, h]
      refine ⟨?_, ?_, ?_, ?_, fun i => ?_, ?_⟩
      · simp [State.passOpen]
      · simp
      · simp [State.closureReport, job, h7, PassControl.takeEnd_pass]
      · simp [TrackStore.cleared]
      · simp [TrackStore.cleared, Slot.freed]
      · exact hw
  · rcases (s.endCopyOnly ch e).closeIfOver_cases s with ⟨h, -⟩ | ⟨-, h0, h⟩
    · have job : (s.endCopyOnly ch e).syncStarvation.job = s.job := by simp [State.job]
      rw [State.endCopy, h, State.syncStarvation_timer, job]
      simp
    · have idle : (((s.endCopyOnly ch e).wakeSegment s).closePass .completed).syncStarvation.starving = false := by
        simp [State.starving, State.passOpen]
      rw [State.endCopy, h, State.syncStarvation_timer, idle]
      simp
  · rw [State.endCopy_pool]
    cases (s.chan ch).bound with
    | none => rfl
    | some v => cases e <;> cases s.job.serialPolicy <;> simp [poolAfterEnd, CopyEnd.disposition]

/-- Entering a state whose MOTOR is that of the state left. -/
theorem Channel.enter_of_motor (c : Channel) (st : ChState) (now : Nat) (h : c.state.motor = st.motor) :
    c.enter st now = { c with state := st } := by
  simp [Channel.enter, h]

/-- The state in which a failed attempt leaves its channel, before the copy is looked at. -/
theorem Channel.attemptLost_eq (c : Channel) (detail : Option VerifyDetail) (now : Nat) (h : c.state.motor = true) :
    c.attemptLost detail now = c.lost detail := by
  rw [Channel.attemptLost, Channel.enter_of_motor _ _ _ h]
  rfl

/-- A failed attempt (R75, R116) comes to AttemptLost. -/
theorem State.attemptFailed_lost (s : State) (ch : ChannelNo) (kind : FailKind) (detail : Option VerifyDetail)
    (motor : (s.chan ch).state.motor = true) : AttemptLost s (s.attemptFailed ch kind detail) ch kind detail := by
  have e := (s.chan ch).attemptLost_eq detail s.now motor
  constructor
  · intro hr
    unfold State.attemptFailed
    dsimp only
    rw [if_neg (by simp [e, Channel.lost]; omega), State.modChan, e]
  · intro hr
    unfold State.attemptFailed
    dsimp only
    rw [if_pos (by simp [e, Channel.lost]; omega), State.modChan, e]
    exact State.endCopy_ended _ _ _

/-- The end of a copy leaves the data areas. -/
theorem State.endCopyOnly_data (s : State) (ch : ChannelNo) (e : CopyEnd) (i : Fin 8) :
    (s.endCopyOnly ch e).store.slots[i].data = s.store.slots[i].data := by
  have : (s.endCopyOnly ch e).store.slots[i] = s.store.slots[i].release ch := by simp [State.leaveClaims]
  rw [this]
  unfold Slot.release
  split
  · split <;> rfl
  · rfl

/-- Two functions that agree on a list. -/
theorem filterMap_agree {α β : Type} {f g : α → Option β} :
    ∀ {l : List α}, (∀ x ∈ l, f x = g x) → l.filterMap f = l.filterMap g
  | [], _ => rfl
  | x :: l, h => by
    rw [List.filterMap_cons, List.filterMap_cons, h x (by simp), filterMap_agree fun y hy => h y (by simp [hy])]

/-- What failing the live channels of a list, one after another, comes to. -/
structure ListEnded (l : List ChannelNo) (reason : CopyReason) (s t : State) : Prop where
  chan    : ∀ ch : ChannelNo, t.chan ch =
    if ch ∈ l ∧ setHas s.control.pass.live ch = true then
      (s.chan ch).ended ch (.failed reason (some .reject)) s.job.serialPolicy s.now
    else s.chan ch
  live    : ∀ ch : ChannelNo, setHas t.control.pass.live ch = (setHas s.control.pass.live ch && decide (ch ∉ l))
  failed  : t.control.pass.failed = s.control.pass.failed + l.countP fun ch : ChannelNo => setHas s.control.pass.live ch.val
  pass    : t.control.pass.tag = s.control.pass.tag ∧ t.control.pass.enrolled = s.control.pass.enrolled ∧
    t.control.pass.passed = s.control.pass.passed
  control : t.control.job = s.control.job ∧ t.control.jobPassed = s.control.jobPassed ∧
    t.control.copyNumber = s.control.copyNumber
  pool    : t.pool =
    match s.job.serialPolicy with
    | .reissue =>
      (l.reverse.filter fun ch : ChannelNo => setHas s.control.pass.live ch.val).filterMap (fun ch => (s.chan ch).bound)
        ++ s.pool
    | .void => s.pool
  data    : SameData s t
  rest    : t.pending = s.pending ∧ t.now = s.now ∧ t.tables = s.tables ∧ t.link = s.link ∧ t.reports = s.reports

theorem State.abortOne_list (reason : CopyReason) :
    ∀ (l : List ChannelNo), l.Nodup → ∀ s : State, ListEnded l reason s (l.foldl (State.abortOne reason) s) := by
  intro l
  induction l with
  | nil =>
    intro _ s
    refine ⟨fun ch => by simp, fun ch => by simp, by simp, ⟨rfl, rfl, rfl⟩, ⟨rfl, rfl, rfl⟩, ?_, fun _ _ => rfl,
      ⟨rfl, rfl, rfl, rfl, rfl⟩⟩
    show s.pool = _
    cases s.job.serialPolicy <;> rfl
  | cons a l ih =>
    intro nd s
    obtain ⟨ha, hl⟩ := List.nodup_cons.1 nd
    rw [List.foldl_cons]
    by_cases live : setHas s.control.pass.live a = true
    · have e : State.abortOne reason s a = s.endCopyOnly a (.failed reason (some .reject)) := by
        unfold State.abortOne; rw [if_pos live]
      rw [e]
      obtain ⟨h1, h2, h3, h4, h5, h6, h7, h8⟩ := ih hl (s.endCopyOnly a (.failed reason (some .reject)))
      have job : (s.endCopyOnly a (.failed reason (some .reject))).job = s.job := by simp [State.job]
      have lv : ∀ ch : ChannelNo, setHas (s.endCopyOnly a (.failed reason (some .reject))).control.pass.live ch =
          (setHas s.control.pass.live ch && decide (a ≠ ch)) := by
        intro ch
        have : ((a : Nat) ≠ ch) = (a ≠ ch) := propext ⟨fun h x => h (by rw [x]), fun h x => h (Fin.ext x)⟩
        simp only [State.endCopyOnly_control, PassControl.takeEnd_pass, setHas_setDrop, this]
      have cn : ∀ ch : ChannelNo, ch ≠ a →
          (s.endCopyOnly a (.failed reason (some .reject))).chan ch = s.chan ch := by
        intro ch hch
        have : (a : Nat) ≠ ch := fun x => hch (Fin.ext x.symm)
        simp [State.chan, this]
      have cs : (s.endCopyOnly a (.failed reason (some .reject))).chan a =
          (s.chan a).ended a (.failed reason (some .reject)) s.job.serialPolicy s.now := by
        simp [State.chan]
      rw [job] at h1
      refine ⟨?_, ?_, ?_, ?_, ?_, ?_, ?_, ?_⟩
      · intro ch
        rw [h1 ch, lv ch]
        by_cases hc : ch = a
        · subst hc
          rw [if_neg (by simp [ha]), if_pos (by simp [live]), cs]
        · rw [cn ch hc]
          have : a ≠ ch := fun x => hc x.symm
          simp [hc, this]
      · intro ch
        rw [h2 ch, lv ch]
        by_cases hc : ch = a
        · subst hc; simp
        · have : a ≠ ch := fun x => hc x.symm
          simp [hc, this]
      · have c : l.countP (fun ch : ChannelNo => setHas
            (s.endCopyOnly a (.failed reason (some .reject))).control.pass.live ch.val) =
            l.countP fun ch : ChannelNo => setHas s.control.pass.live ch.val := by
          apply List.countP_congr
          intro ch hch
          have : a ≠ ch := fun x => ha (x ▸ hch)
          rw [lv ch]; simp [this]
        rw [h3, c, List.countP_cons]
        simp [PassControl.takeEnd_pass, live]
        omega
      · exact h4.imp (fun x => by rw [x]; simp [PassControl.takeEnd_pass]) fun y =>
          ⟨by rw [y.1]; simp [PassControl.takeEnd_pass], by rw [y.2]; simp [PassControl.takeEnd_pass]⟩
      · exact ⟨by rw [h5.1]; simp, by rw [h5.2.1]; simp [PassControl.takeEnd], by rw [h5.2.2]; simp⟩
      · have f : (l.reverse.filter fun ch : ChannelNo => setHas
            (s.endCopyOnly a (.failed reason (some .reject))).control.pass.live ch.val) =
            l.reverse.filter fun ch : ChannelNo => setHas s.control.pass.live ch.val := by
          apply List.filter_congr
          intro ch hch
          have : a ≠ ch := fun x => ha (x ▸ List.mem_reverse.1 hch)
          rw [lv ch]; simp [this]
        have g : ((l.reverse.filter fun ch : ChannelNo => setHas s.control.pass.live ch.val).filterMap fun ch =>
            ((s.endCopyOnly a (.failed reason (some .reject))).chan ch).bound) =
            (l.reverse.filter fun ch : ChannelNo => setHas s.control.pass.live ch.val).filterMap fun ch =>
              (s.chan ch).bound := by
          apply filterMap_agree
          intro ch hch
          rw [cn ch fun x => ha (x ▸ List.mem_reverse.1 (List.mem_filter.1 hch).1)]
        rw [h6, job, f, g]
        cases hp : s.job.serialPolicy with
        | void => simp [hp, CopyEnd.disposition, poolAfterEnd]
        | reissue =>
          cases hb : (s.chan a).bound <;>
            simp [hp, hb, CopyEnd.disposition, poolAfterEnd, List.filter_append, live, List.filterMap_append]
      · intro i x; rw [h7 i x, State.endCopyOnly_data]
      · exact h8
    · have e : State.abortOne reason s a = s := by unfold State.abortOne; rw [if_neg live]
      rw [e]
      obtain ⟨h1, h2, h3, h4, h5, h6, h7, h8⟩ := ih hl s
      refine ⟨?_, ?_, ?_, h4, h5, ?_, h7, h8⟩
      · intro ch
        rw [h1 ch]
        by_cases hc : ch = a
        · subst hc; simp [live]
        · simp [hc]
      · intro ch
        rw [h2 ch]
        by_cases hc : ch = a
        · subst hc; simp [live]
        · simp [hc]
      · rw [h3]; simp [live]
      · rw [h6]; simp [live]

/-- The channels counted downwards are the set's. -/
theorem countP_channelsDown (x : ChannelSet) : (channelsDown.countP fun ch : ChannelNo => setHas x ch.val) = setCard x := by
  have p : (channelsDown.map fun ch => ch.val).Perm (List.range 8) := by decide
  rw [setCard, ← p.countP_eq, List.countP_map]
  rfl

/-- The abort of a pass (R52, R54, R57) comes to PassEnded. -/
theorem State.abortPass_ended (s : State) (reason : CopyReason) (close : CloseReason) :
    PassEnded s (s.abortPass reason close) reason close := by
  unfold State.abortPass
  obtain ⟨h1, h2, h3, h4, h5, h6, h7, h8⟩ := State.abortOne_list reason channelsDown (by decide) s
  generalize channelsDown.foldl (State.abortOne reason) s = u at *
  have every : ∀ ch : ChannelNo, ch ∈ channelsDown := by decide
  have job : u.job = s.job := by rw [State.job, State.job, h5.1]
  have same : ∀ ch, (u.closePass close).chan ch = u.chan ch := fun _ => rfl
  refine ⟨?_, ?_, ?_, ?_, ?_, ?_, ?_, ?_⟩
  · intro ch r hl hr
    rw [same, h1 ch, if_pos ⟨every ch, hl⟩, Channel.ended_reported _ _ _ _ _ hr]
    simp
  · intro ch hl
    rw [same, h1 ch, if_neg (by simp [hl])]
  · refine ⟨rfl, h4.1, ?_, h4.2.1, h4.2.2, ?_, rfl⟩
    · show u.control.pass.live = 0
      apply set_ext
      intro i hi
      have := h2 ⟨i, hi⟩
      simpa [every] using this
    · show u.control.pass.failed = _
      rw [h3, countP_channelsDown, State.inFlight]
  · show some (u.closureReport close) = _
    simp only [State.closureReport, job, h3, h4.1, h4.2.2, h5.2.1, countP_channelsDown, State.inFlight]
  · exact ⟨h5.1, h5.2.1, h5.2.2, rfl⟩
  · exact ⟨rfl, fun i => by simp [TrackStore.cleared, Slot.freed]⟩
  · show u.pool = _
    rw [h6]
    rfl
  · refine ⟨h8.1, h8.2.1, h8.2.2.1, h8.2.2.2.1, h8.2.2.2.2, fun i a => ?_⟩
    rw [State.closePass_data]; exact h7 i a

end Sys2Proof.Machine
end

