-- ==== Sys2Proof/Laws/Events.lean ====
section
/-!
SUPPORT. The shared operations of the channels' events, each said once in the words of Safety.lean: re-arm, sorting, the
resets, the steps of a seek, the measured edge and the finished track.
-/

namespace Sys2Proof.Machine

/-- Of two replacements of a channel the second stands. -/
@[simp] theorem State.setChan_setChan (s : State) (ch : ChannelNo) (c d : Channel) :
    (s.setChan ch c).setChan ch d = s.setChan ch d := by
  simp [State.setChan]

/-- A channel replaced by itself. -/
@[simp] theorem State.setChan_chan (s : State) (ch : ChannelNo) : s.setChan ch (s.chan ch) = s := by
  simp [State.setChan, State.chan]

/-- The channel that a CHANNEL-CONTROL names. -/
@[simp] theorem controlChannel_ofNat (ch : ChannelNo) (action : Byte) :
    controlChannel [BitVec.ofNat 8 ch.val, action] = ch := by
  have h : (BitVec.ofNat 8 ch.val).toNat % 8 = ch.val := by revert ch; decide
  exact Fin.ext h

/-- A time in seconds, in nanoseconds. -/
theorem sNs_eq : Config.sNs = 1000000000 := rfl

/-- A monitor that has just started is not STABLE. -/
theorem Monitor.started_unstable (m : Monitor) (now p : Nat) : (m.started now p).stable = false := rfl

/-- Entering SPINUP with the motor off. -/
theorem Channel.enterSpinup_off (c : Channel) (ch : ChannelNo) (now : Nat) (h : c.state.motor = false) :
    c.enterSpinup ch now =
      { c with
        state := .spinup, idleTimer := none, spinUpTimer := some (now + 4000000000)
        monitor := c.monitor.started now c.active.periodMax } := by
  have e : c.enter .spinup now =
      { c with state := .spinup, monitor := c.monitor.started now c.active.periodMax } := by
    have on : ChState.spinup.motor = true := rfl
    simp [Channel.enter, h, on]
  unfold Channel.enterSpinup
  simp only [e, Monitor.started_unstable, Config.spinUpNs]
  rfl

/-- Entering SPINUP with the motor on: a channel already STABLE acts as on STABLE reached (R67). -/
theorem Channel.enterSpinup_on (c : Channel) (ch : ChannelNo) (now : Nat) (h : c.state.motor = true) :
    c.enterSpinup ch now =
      if c.monitor.count = 3 then
        if c.lines.writeProtect then
          { c with
            state := .rejecting, spinUpTimer := none, idleTimer := none
            held := c.held ++ [.channelEvent ch .writeProtected] }
        else
          { c with
            state := .ready, spinUpTimer := none
            idleTimer := if c.active.idleTimeout = 0 then none else some (now + c.active.idleTimeout * 1000000000) }
      else { c with state := .spinup, idleTimer := none, spinUpTimer := some (now + 4000000000) } := by
  have e : c.enter .spinup now = { c with state := .spinup } := Channel.enter_of_motor _ _ _ h
  unfold Channel.enterSpinup
  simp only [e, Monitor.stable, beq_iff_eq, Config.spinUpNs]
  split
  · unfold Channel.stableInSpinup Channel.enterRejecting Channel.enterReady
    rw [Channel.enter_of_motor _ .rejecting _ rfl, Channel.enter_of_motor _ .ready _ rfl]
    rfl
  · rfl

/-- Leaving for a state with the motor off. -/
theorem Channel.leaveFor_eq (c : Channel) (st : ChState) (now : Nat) (h : st.motor = false) :
    c.leaveFor st now =
      { c with
        state := st, spinUpTimer := none, idleTimer := none
        monitor := if c.state.motor then c.monitor.stopped else c.monitor } := by
  unfold Channel.leaveFor Channel.enter
  cases hc : c.state.motor <;> simp [h]

/-- Re-arm, as one record (R85). -/
theorem Channel.rearm_rearmed (c : Channel) (ch : ChannelNo) (now : Nat) : c.rearm ch now = c.rearmed now := by
  unfold Channel.rearm Channel.rearmed Channel.enterEmptyOrSpinup
  simp only [Channel.leaveFor_eq _ .empty _ rfl, Channel.leaveFor_eq _ .offline _ rfl, Bool.and_eq_true]
  split
  · split
    · rw [Channel.enterSpinup_off _ ch now (by exact rfl)]
      cases c.state.motor <;> rfl
    · rfl
  · rfl

/-- SORTING entered with the motor on (R83). -/
theorem Channel.enterSorting_sorted (c : Channel) (sort : Strobe) (now : Nat) (h : c.state.motor = true) :
    c.enterSorting sort now = c.sorted sort now := by
  have off : ChState.sorting.motor = false := rfl
  have e : c.enter .sorting now = { c with state := .sorting, monitor := c.monitor.stopped } := by
    simp [Channel.enter, h, off]
  unfold Channel.enterSorting Channel.sorted
  simp only [e, Channel.startStrobe]
  split
  · cases sort <;> rfl
  · rfl

/-- A channel whose reset was held goes on (R88). -/
theorem Channel.goOn_released (c : Channel) (ch : ChannelNo) (now : Nat) (h : c.state.motor = true) :
    c.goOn ch now = c.released ch now := by
  unfold Channel.goOn Channel.released
  simp only [Channel.leaveFor_eq _ .empty _ rfl, Channel.leaveFor_eq _ .offline _ rfl, h,
    Channel.enterSpinup_on { c with resetHeld := false } ch now h]
  rfl

/-- What a reset clears (R88, R89, R100). -/
theorem Channel.cleared_wiped (c : Channel) (now : Nat) : c.cleared now = c.wiped now := by
  unfold Channel.cleared Channel.wiped Channel.applyPending Monitor.resetTo
  cases c.state.motor <;> rfl

/-- A cleared channel goes on (R88, R89). -/
theorem Channel.goOn_resumed (w : Channel) (ch : ChannelNo) (now : Nat)
    (monitor : w.monitor = if w.state.motor then .fresh now w.active.periodMax else Monitor.initial)
    (spin : w.spinUpTimer = none) (idle : w.idleTimer = none) : w.goOn ch now = w.resumed now := by
  unfold Channel.goOn Channel.resumed
  simp only [Channel.leaveFor_eq _ .empty _ rfl, Channel.leaveFor_eq _ .offline _ rfl]
  have still : (if w.state.motor then w.monitor.stopped else w.monitor) = Monitor.initial := by
    rw [monitor]; cases w.state.motor <;> rfl
  simp only [still, spin, idle]
  split
  · split
    · cases h : w.state.motor
      · rw [Channel.enterSpinup_off _ ch now (by exact h)]
        simp only [monitor, h]
        rfl
      · rw [Channel.enterSpinup_on _ ch now (by exact h)]
        simp only [monitor, h]
        rfl
    · rfl
  · rfl

/-- A wiped channel goes on (R88). -/
theorem Channel.wiped_goOn (c : Channel) (ch : ChannelNo) (now : Nat) :
    (c.wiped now).goOn ch now = (c.wiped now).resumed now :=
  Channel.goOn_resumed _ _ _ rfl rfl rfl

/-- One step of a seek (R71). -/
theorem Channel.seekOn_stepped (c : Channel) (target head now : Nat) :
    c.seekOn target head now = c.stepped target head now := by
  unfold Channel.seekOn Channel.stepped
  split
  · rename_i hc; simp [hc, Channel.startSettle]
  · rename_i y hc
    rcases Nat.lt_trichotomy y target with hl | hl | hl
    · simp [hc, hl, Nat.ne_of_lt hl, Channel.pulse]
    · subst hl; simp [hc, Channel.startSettle]
    · simp [hc, hl, Nat.ne_of_gt hl, Nat.not_lt.2 (Nat.le_of_lt hl), Channel.pulse]

/-- A seek begins, with the motor on (R71). -/
theorem Channel.enterSeeking_begun (c : Channel) (target head now : Nat) (h : c.state.motor = true) :
    c.enterSeeking target head now = c.seekBegun target head now := by
  have e := Channel.enter_of_motor { c with recalSteps := 0, stepTimer := none } .seeking now h
  unfold Channel.enterSeeking
  rw [e]
  unfold Channel.seekBegun Channel.seekOn Channel.stepped Channel.aim Channel.modLines
  cases hc : c.cylinder with
  | none => simp [Channel.startSettle]
  | some y =>
    rcases Nat.lt_trichotomy y target with hl | hl | hl
    · simp [hl, Nat.ne_of_lt hl, Channel.pulse]
    · subst hl; simp [Channel.startSettle]
    · simp [hl, Nat.ne_of_gt hl, Nat.not_lt.2 (Nat.le_of_lt hl), Channel.pulse]

/-- A finished track (R74). -/
theorem State.finishTrack_finished (s : State) (ch : ChannelNo) (a : Attempt) (h : (s.chan ch).state.motor = true) :
    TrackFinished s (s.finishTrack ch a) ch a := by
  have e : ((s.modChan ch fun c => c.dropAttempt.modCopy fun r => { r with verifyDetail := none }).leaveSource ch a.source) =
      s.trackDone ch a := by
    unfold State.leaveSource State.trackDone
    cases a.source <;> rfl
  unfold State.finishTrack
  simp only [e]
  constructor
  · intro hm
    rw [if_neg (by omega)]
    unfold State.nextTrack State.modChan
    dsimp only
    rw [Channel.enterSeeking_begun _ _ _ _ (by simpa [State.trackDone] using h)]
    rfl
  · intro hl
    rw [if_pos hl]
    exact State.endCopy_ended _ _ _

/-- A leading edge on a running monitor is measured and handed to the channel (R92). -/
theorem execIndexLeadingEdge_seen (s : State) (ch : ChannelNo) (t : Nat) (protect : Bool)
    (h : (s.chan ch).monitor.running = true) :
    exec (.indexLeadingEdge ch t protect) s =
      .next ((s.edgeSeen ch t protect).edgeToChannel ch (s.chan ch).monitor t) := by
  simp only [exec, execIndexLeadingEdge, h]
  simp [State.edgeSeen, State.modChan, State.reach, Channel.modLines]
  rfl

/-- The recovery timer after the edge (R76). -/
theorem State.edgeSeen_recover (s : State) (ch : ChannelNo) (t : Nat) (protect : Bool) :
    ((s.edgeSeen ch t protect).modChan ch fun c =>
      c.recover (s.chan ch).monitor ((s.edgeSeen ch t protect).chan ch).monitor (s.edgeSeen ch t protect).now) =
      s.recoverySeen ch t protect := by
  unfold State.recoverySeen State.modChan Channel.recover
  simp only [stableReached, stableLost, Monitor.stable]
  have rt : ((s.edgeSeen ch t protect).chan ch).recoveryTimer = (s.chan ch).recoveryTimer := by simp [State.edgeSeen]
  have n : (s.edgeSeen ch t protect).now = max s.now t := rfl
  rw [rt, n]
  generalize (s.edgeSeen ch t protect).chan ch = c at *
  by_cases h1 : (s.chan ch).monitor.count = 3 <;> by_cases h2 : c.monitor.count = 3 <;>
    cases h3 : (s.chan ch).recoveryTimer <;> simp [h1, h2, Config.recoveryNs, Config.sNs] <;> rw [← h3, ← rt]

end Sys2Proof.Machine
end

