-- ==== Sys2Proof/Laws/Frames.lean ====
section
/-!
SUPPORT. The taking of the head frame, said once: what `State.takeFrame` answers for a frame that can be taken, for one of
the wrong length, and for one that waits; and the placing of reports.
-/

namespace Sys2Proof.Machine

/-- A report is placed where an entry is free (R175). -/
theorem State.place_eq {s : State} (h : 0 < s.freeEntries) (r : Report) : s.place r = { s with reports := s.reports ++ [r] } := by
  unfold State.place
  rw [if_pos (by simp only [State.freeEntries] at h; omega)]

/-- With no entry free a report is lost (R167, R175). -/
theorem State.place_full {s : State} (h : s.freeEntries = 0) (r : Report) : s.place r = s := by
  unfold State.place
  rw [if_neg (by simp only [State.freeEntries, Config.queueSize] at h ⊢; omega)]

/-- A frame answered by one report. -/
theorem State.place_dropHead {s : State} (h : 0 < s.freeEntries) (r : Report) : (s.place r).dropHead = s.answered [r] := by
  rw [State.place_eq h]; rfl

/-- A frame that leaves its entry and nothing else. -/
theorem State.dropHead_eq (s : State) : s.dropHead = s.answered [] := by
  simp [State.answered, State.dropHead, State.modLink]

/-- No frame but a STATUS-QUERY needs more than one entry. -/
theorem Frame.entriesNeeded_le_one (f : Frame) (h : f.kind ≠ kindStatusQuery) : f.entriesNeeded ≤ 1 := by
  simp only [Frame.entriesNeeded, if_neg h]
  split <;> omega

/-- A head frame that can be taken, of this command's kind and length and meant for it, is acted on and leaves. -/
theorem State.takeFrame_taken {s : State} {kind : Byte} {body : List Byte} {needed : Nat} (h : s.headIs kind body needed)
    (need : Frame.entriesNeeded ⟨.ready, kind, body⟩ ≤ needed) (len : Frame.lengthOk ⟨.ready, kind, body⟩ = true)
    {mine : List Byte → Bool} (m : mine body = true) (act : List Byte → State → State) :
    s.takeFrame kind mine act = (act body s).dropHead := by
  unfold State.takeFrame
  rw [h.1]
  simp only [len, m, if_true]
  rw [if_pos ⟨trivial, Nat.le_trans need h.2⟩]

/-- A head frame of another command of its kind is left alone. -/
theorem State.takeFrame_other {s : State} {kind : Byte} {body : List Byte} {needed : Nat} (h : s.headIs kind body needed)
    (len : Frame.lengthOk ⟨.ready, kind, body⟩ = true) {mine : List Byte → Bool} (m : mine body = false)
    (act : List Byte → State → State) : s.takeFrame kind mine act = s := by
  unfold State.takeFrame
  rw [h.1]
  simp [len, m]

/-- A head frame of the wrong length is answered FRAME-ERROR LENGTH (R170). -/
theorem State.takeFrame_length {s : State} {kind : Byte} {body : List Byte} (h : s.headIs kind body 1)
    (len : Frame.lengthOk ⟨.ready, kind, body⟩ = false) (mine : List Byte → Bool) (act : List Byte → State → State) :
    s.takeFrame kind mine act = s.answered [.frameError .length (some kind)] := by
  have need : Frame.entriesNeeded ⟨.ready, kind, body⟩ ≤ 1 := by
    unfold Frame.entriesNeeded
    simp only [len]
    split
    · omega
    · split <;> simp
  unfold State.takeFrame
  rw [h.1]
  simp only [len]
  rw [if_pos ⟨trivial, Nat.le_trans need h.2⟩]
  exact State.place_dropHead h.2 _

/-- A head frame of another kind, or with too few free entries, is not taken (R170, R171). -/
theorem State.takeFrame_waits {s : State} {f : Frame} (h : s.headFrame = some f) {kind : Byte}
    (w : f.kind ≠ kind ∨ s.freeEntries < f.entriesNeeded) (mine : List Byte → Bool) (act : List Byte → State → State) :
    s.takeFrame kind mine act = s := by
  unfold State.takeFrame
  rw [h]
  dsimp only
  rw [if_neg]
  rintro ⟨h1, h2⟩
  rcases w with w | w
  · exact w h1
  · omega

end Sys2Proof.Machine
end

