-- ==== Sys2Proof/Laws/Link.lean ====
section
/-!
SUPPORT. The bytes on the link: the levels of a frame being sent, byte by byte (R162), and how the cyclic check takes a
byte more (R9).
-/

namespace Sys2Proof.Machine

@[simp] theorem byteLevels_length (b : Byte) : (byteLevels b).length = 11 := by simp [byteLevels]

theorem flatMap_byteLevels_length (bs : List Byte) : (bs.flatMap byteLevels).length = 11 * bs.length := by
  induction bs with
  | nil => rfl
  | cons b bs ih => simp [ih]; omega

/-- In the eleven bit-times of byte `i` LINK OUT has that byte's levels. -/
theorem outLevel_eq {l : LinkPort} {i k : Nat} {b : Byte} (h : l.linkOut[i]? = some b) (hk : k < 11) :
    l.outLevel (11 * i + k) = (byteLevels b).getD k true := by
  unfold LinkPort.outLevel
  revert h
  generalize l.linkOut = bs
  induction bs generalizing i with
  | nil => simp
  | cons c bs ih =>
    intro h
    cases i with
    | zero =>
      obtain rfl : c = b := by simpa using h
      simp [List.getElem?_append, hk]
    | succ i =>
      rw [← ih (by simpa using h)]
      simp only [List.flatMap_cons, List.getD_eq_getElem?_getD]
      rw [List.getElem?_append_right (by simp; omega), byteLevels_length, show 11 * (i + 1) + k - 11 = 11 * i + k by omega]

@[simp] theorem cyclicCheck_nil : cyclicCheck [] = 0xFFFF := rfl

/-- The check of bytes with more behind them goes on from the check so far. -/
theorem cyclicCheck_append (xs ys : List Byte) : cyclicCheck (xs ++ ys) = ys.foldl checkByte (cyclicCheck xs) := by
  simp [cyclicCheck]

end Sys2Proof.Machine
end

