-- ==== Sys2Proof/Laws/Memory.lean ====
section
/-!
SUPPORT. The data area of a slot: a read after a write gives what was written, a write leaves every other byte alone, and
every write keeps the canonical form and stays below the area's end.
-/

namespace Sys2Proof.Machine

/-- A key below every key of a list is not looked up in it. -/
theorem lookup_none_of_ne {m : List Host.Cell} {a : Nat} (h : ∀ c ∈ m, c.1 ≠ a) : m.lookup a = none := by
  induction m with
  | nil => rfl
  | cons c m ih =>
    have h1 : c.1 ≠ a := h c (by simp)
    rw [List.lookup_cons, show (a == c.1) = false by simpa using fun e => h1 e.symm]
    exact ih fun d hd => h d (by simp [hd])

/-- Looking up in two lists, one after the other. -/
theorem lookup_append (m n : List Host.Cell) (a : Nat) :
    (m ++ n).lookup a = (m.lookup a).or (n.lookup a) := by
  induction m with
  | nil => rfl
  | cons c m ih =>
    obtain ⟨k, v⟩ := c
    by_cases h : a = k
    · subst h; simp
    · simp [List.lookup_cons, show (a == k) = false by simpa using h, ih]

/-- A lookup in the cells that have a property is the lookup itself, where the key has it. -/
theorem lookup_filter {m : List Host.Cell} {p : Nat → Bool} {a : Nat} (h : p a = true) :
    (m.filter fun c => p c.1).lookup a = m.lookup a := by
  induction m with
  | nil => rfl
  | cons c m ih =>
    obtain ⟨k, v⟩ := c
    by_cases hk : p k = true
    · simp [hk, List.lookup_cons, ih]
    · have hne : (a == k) = false := by
        simp; rintro rfl; exact hk h
      simp [hk, List.lookup_cons, hne, ih]

/-- The cells of a run lie within it. -/
theorem runCells_bounds {a : Nat} {bs : List Byte} : ∀ c ∈ runCells a bs, a ≤ c.1 ∧ c.1 < a + bs.length := by
  induction bs generalizing a with
  | nil => simp [runCells]
  | cons b bs ih =>
    intro c hc
    simp only [runCells] at hc
    split at hc
    · have := ih c hc; simp; omega
    · rcases List.mem_cons.1 hc with rfl | hc
      · simp
      · have := ih c hc; simp; omega

/-- A run's cells give its bytes, a byte 0 by having no cell. -/
theorem lookup_runCells {a : Nat} {bs : List Byte} {p : Nat} (h : p < bs.length) :
    ((runCells a bs).lookup (a + p)).getD 0 = bs[p] := by
  induction bs generalizing a p with
  | nil => simp at h
  | cons b bs ih =>
    simp only [runCells]
    match p with
    | 0 =>
      split
      · next hb =>
        rw [lookup_none_of_ne fun c hc => by have := (runCells_bounds c hc).1; omega]
        simp [hb]
      · simp
    | p + 1 =>
      have e : a + (p + 1) = a + 1 + p := by omega
      split
      · rw [e, ih (by simpa using h)]; rfl
      · rw [List.lookup_cons, show (a + (p + 1) == a) = false by simp, e]
        simpa using ih (a := a + 1) (p := p) (by simpa using h)

/-- A byte of the run reads as it was written (R24). -/
theorem memRead_memWrite_run {m : List Host.Cell} {a : Nat} {bs : List Byte} {p : Nat} (h : p < bs.length) :
    memRead (memWrite m a bs) (a + p) = bs[p] := by
  have low : (m.filter fun c => decide (c.1 < a)).lookup (a + p) = none :=
    lookup_none_of_ne fun c hc => by have := (List.mem_filter.1 hc).2; simp at this; omega
  have high : (m.filter fun c => decide (a + bs.length ≤ c.1)).lookup (a + p) = none :=
    lookup_none_of_ne fun c hc => by have := (List.mem_filter.1 hc).2; simp at this; omega
  simp only [memRead, memWrite, lookup_append, low, high, Option.none_or, Option.or_none]
  exact lookup_runCells h

/-- A byte outside the run reads as before. -/
theorem memRead_memWrite_other {m : List Host.Cell} {a x : Nat} {bs : List Byte} (h : x < a ∨ a + bs.length ≤ x) :
    memRead (memWrite m a bs) x = memRead m x := by
  have run : (runCells a bs).lookup x = none :=
    lookup_none_of_ne fun c hc => by have := runCells_bounds c hc; omega
  rcases h with h | h
  · have high : (m.filter fun c => decide (a + bs.length ≤ c.1)).lookup x = none :=
      lookup_none_of_ne fun c hc => by have := (List.mem_filter.1 hc).2; simp at this; omega
    simp only [memRead, memWrite, lookup_append, run, high, Option.or_none]
    rw [lookup_filter (p := fun k => decide (k < a)) (by simpa using h)]
  · have low : (m.filter fun c => decide (c.1 < a)).lookup x = none :=
      lookup_none_of_ne fun c hc => by have := (List.mem_filter.1 hc).2; simp at this; omega
    simp only [memRead, memWrite, lookup_append, run, low, Option.none_or]
    rw [lookup_filter (p := fun k => decide (a + bs.length ≤ k)) (by simpa using h)]

/-- The cells of a run are in canonical form. -/
theorem memWf_runCells (a : Nat) (bs : List Byte) :
    (runCells a bs).Pairwise (fun x y => x.1 < y.1) ∧ ∀ c ∈ runCells a bs, c.2 ≠ 0 := by
  induction bs generalizing a with
  | nil => simp [runCells]
  | cons b bs ih =>
    simp only [runCells]
    split
    · exact ih (a + 1)
    · next hb =>
      refine ⟨List.pairwise_cons.2 ⟨fun c hc => ?_, (ih (a + 1)).1⟩, ?_⟩
      · have := (runCells_bounds c hc).1; simp; omega
      · intro c hc
        rcases List.mem_cons.1 hc with rfl | hc
        · exact hb
        · exact (ih (a + 1)).2 c hc

/-- Every write keeps the canonical form. -/
theorem memWf_memWrite {m : List Host.Cell} (h : memWf m = true) (a : Nat) (bs : List Byte) :
    memWf (memWrite m a bs) = true := by
  simp only [memWf, Bool.and_eq_true, decide_eq_true_eq, List.all_eq_true] at h ⊢
  obtain ⟨sorted, nonzero⟩ := h
  have run := memWf_runCells a bs
  constructor
  · rw [memWrite, List.pairwise_append, List.pairwise_append]
    refine ⟨sorted.filter _, ⟨run.1, sorted.filter _, fun x hx y hy => ?_⟩, fun x hx y hy => ?_⟩
    · have := (runCells_bounds x hx).2
      have := (List.mem_filter.1 hy).2
      simp at this; omega
    · have hx' := (List.mem_filter.1 hx).2
      simp only [decide_eq_true_eq] at hx'
      rcases List.mem_append.1 hy with hy | hy
      · have := (runCells_bounds y hy).1; omega
      · have := (List.mem_filter.1 hy).2
        simp at this; omega
  · intro c hc
    simp only [memWrite, List.mem_append] at hc
    rcases hc with hc | hc | hc
    · exact nonzero c (List.mem_filter.1 hc).1
    · exact run.2 c hc
    · exact nonzero c (List.mem_filter.1 hc).1

/-- A write that ends within the data area keeps the area's law (R18). -/
theorem dataOk_memWrite {m : List Host.Cell} (h : dataOk m = true) {a : Nat} {bs : List Byte}
    (fits : a + bs.length ≤ Config.slotBytes) : dataOk (memWrite m a bs) = true := by
  simp only [dataOk, Bool.and_eq_true, List.all_eq_true, decide_eq_true_eq] at h ⊢
  refine ⟨memWf_memWrite h.1 a bs, fun c hc => ?_⟩
  simp only [memWrite, List.mem_append] at hc
  rcases hc with hc | hc | hc
  · exact h.2 c (List.mem_filter.1 hc).1
  · have := (runCells_bounds c hc).2; omega
  · exact h.2 c (List.mem_filter.1 hc).1

/-- Data areas in canonical form that read alike are the same. -/
theorem mem_ext {m n : List Host.Cell} (hm : memWf m = true) (hn : memWf n = true)
    (h : ∀ a, memRead m a = memRead n a) : m = n := by
  induction m generalizing n with
  | nil =>
    cases n with
    | nil => rfl
    | cons d n =>
      obtain ⟨k, v⟩ := d
      have := h k
      simp [memWf] at hn
      simp [memRead] at this
      exact absurd this.symm hn.2.1
  | cons c m ih =>
    obtain ⟨j, u⟩ := c
    simp only [memWf, Bool.and_eq_true, decide_eq_true_eq, List.all_cons, List.pairwise_cons, List.all_eq_true] at hm
    cases n with
    | nil =>
      have := h j
      simp [memRead] at this
      exact absurd this hm.2.1
    | cons d n =>
      obtain ⟨k, v⟩ := d
      simp only [memWf, Bool.and_eq_true, decide_eq_true_eq, List.all_cons, List.pairwise_cons, List.all_eq_true] at hn
      have below : ∀ {l : List Host.Cell} {x y : Nat}, (∀ c ∈ l, y < c.1) → x ≤ y → l.lookup x = none :=
        fun hl hxy => lookup_none_of_ne fun c hc => by have := hl c hc; omega
      have key : j = k := by
        rcases Nat.lt_trichotomy j k with lt | eq | gt
        · have := h j
          simp [memRead, List.lookup_cons, show (j == k) = false by simpa using Nat.ne_of_lt lt,
            below hn.1.1 (Nat.le_of_lt lt)] at this
          exact absurd this hm.2.1
        · exact eq
        · have := h k
          simp [memRead, List.lookup_cons, show (k == j) = false by simpa using Nat.ne_of_lt gt,
            below hm.1.1 (Nat.le_of_lt gt)] at this
          exact absurd this.symm hn.2.1
      subst key
      have val : u = v := by simpa [memRead, List.lookup_cons] using h j
      subst val
      congr 1
      refine ih ?_ ?_ fun a => ?_
      · simp only [memWf, Bool.and_eq_true, decide_eq_true_eq, List.all_eq_true]; exact ⟨hm.1.2, hm.2.2⟩
      · simp only [memWf, Bool.and_eq_true, decide_eq_true_eq, List.all_eq_true]; exact ⟨hn.1.2, hn.2.2⟩
      · by_cases e : a = j
        · subst e; simp [memRead, below hm.1.1 (Nat.le_refl a), below hn.1.1 (Nat.le_refl a)]
        · simpa [memRead, List.lookup_cons, show (a == j) = false by simpa using e] using h a

end Sys2Proof.Machine
end

