-- ==== Sys2Proof/Laws/Segments.lean ====
section
/-!
SUPPORT. An accepted segment, said once: `State.acceptSegment` on a FILLING slot comes to SegmentTaken (Safety.lean).
-/

namespace Sys2Proof.Machine

/-- The present set is full when it holds every index of the layout (R29). -/
theorem Slot.full_iff (sl : Slot) (l : Layout) : sl.full l = true ↔ ∀ k < l.n, setHas sl.present k = true := by
  simp [Slot.full]

/-- The slot after its completion, if it is full. -/
theorem State.completeIfFull_slot (s : State) (i j : Fin 8) :
    (s.completeIfFull i).store.slots[j] =
      if j = i ∧ s.store.slots[i].full s.layout = true then { s.store.slots[i] with state := .complete }
      else s.store.slots[j] := by
  rw [State.completeIfFull_eq]
  by_cases h : s.store.slots[i].full s.layout = true
  · rw [if_pos h]
    show ((s.setSlot i { s.store.slots[i] with state := .complete }).store.slots[j]) = _
    by_cases e : j = i
    · subst e; rw [if_pos ⟨rfl, h⟩, State.slot_setSlot_self]
    · rw [if_neg (by simp [e]), State.slot_setSlot_ne s _ e]
  · rw [if_neg h, if_neg fun x => h x.2]

/-- The channels after the completion of a slot (R29). -/
theorem State.completeIfFull_chan (s : State) (i : Fin 8) (ch : ChannelNo) :
    (s.completeIfFull i).chan ch =
      if s.store.slots[i].full s.layout = true then
        (s.chan ch).trackReady (setHas s.store.slots[i].claims ch) s.store.slots[i].track s.now
      else s.chan ch := by
  rw [State.completeIfFull_eq]
  split
  · rw [State.chan_mapChans]; rfl
  · rfl

/-- A timer that has been restarted, and is then held to its conditions, stands at the full timeout if it runs (R30, R56). -/
theorem State.syncStarvation_restarted (v : State) (p : PassControl) (d : Nat)
    (hc : v.control = { p with starvation := p.starvation.map fun _ => d }) (hd : v.starvationDue = d) :
    v.syncStarvation.control = { p with starvation := if v.starving then some d else none } := by
  have got : ∀ x : Option Nat, (x.map fun _ => d).getD d = d := fun x => by cases x <;> rfl
  unfold State.syncStarvation State.modControl
  simp only [hc, hd, got]

/-- An accepted segment comes to SegmentTaken. -/
theorem State.acceptSegment_taken (s : State) (i : Fin 8) (body : List Byte) (t0 : Nat)
    (state : s.store.slots[i].state = .filling) (track : s.store.slots[i].track = some t0) :
    SegmentTaken s (s.acceptSegment i body).dropHead i s.store.slots[i] t0 (num1 body 2) (num1 body 3) (body.drop 4) ∧
      (s.acceptSegment i body).dropHead.store.fillCursor = s.store.fillCursor := by
  generalize hw : s.store.slots[i].written s.layout body = w
  generalize hu : (s.setSlot i w).restartStarvation = u
  have ui : u.store.slots[i] = w := by
    subst hu; exact State.slot_setSlot_self s i w
  have un : ∀ j : Fin 8, j ≠ i → u.store.slots[j] = s.store.slots[j] := by
    intro j hj; subst hu; exact State.slot_setSlot_ne s w hj
  have uc : ∀ ch, u.chan ch = s.chan ch := by intro ch; subst hu; rfl
  have ul : u.layout = s.layout := by subst hu; rfl
  have unow : u.now = s.now := by subst hu; rfl
  have e : (s.acceptSegment i body).dropHead = ((u.completeIfFull i).syncStarvation).dropHead := by
    subst hu; subst hw; rfl
  have slots : ∀ j : Fin 8, (s.acceptSegment i body).dropHead.store.slots[j] = (u.completeIfFull i).store.slots[j] := by
    intro j; rw [e]; rfl
  have chans : ∀ ch, (s.acceptSegment i body).dropHead.chan ch = (u.completeIfFull i).chan ch := by
    intro ch; rw [e]; rfl
  have wt : w.track = some t0 := by subst hw; exact track
  have wp : w.present = setAddRun s.store.slots[i].present (num1 body 2) (num1 body 3) := by subst hw; rfl
  have ws : w.state = .filling := by subst hw; exact state
  have wc : w.claims = s.store.slots[i].claims := by subst hw; rfl
  have wd : w.data = memWrite s.store.slots[i].data (num1 body 2 * s.layout.size) (body.drop 4) := by subst hw; rfl
  have slot : (s.acceptSegment i body).dropHead.store.slots[i] =
      if w.full s.layout = true then { w with state := .complete } else w := by
    rw [slots, State.completeIfFull_slot, ui, ul]
    by_cases f : w.full s.layout = true
    · rw [if_pos ⟨rfl, f⟩, if_pos f]
    · rw [if_neg (by simp [f]), if_neg f]
  have present : (s.acceptSegment i body).dropHead.store.slots[i].present = w.present := by rw [slot]; split <;> rfl
  have data : (s.acceptSegment i body).dropHead.store.slots[i].data = w.data := by rw [slot]; split <;> rfl
  have complete : (s.acceptSegment i body).dropHead.store.slots[i].state = .complete ↔ w.full s.layout = true := by
    rw [slot]
    by_cases f : w.full s.layout = true
    · simp [f]
    · simp [f, ws]
  refine ⟨⟨?_, ?_, ?_, ?_, ?_, ?_, ?_, ?_, ?_, ?_⟩, ?_⟩
  · intro k hk
    rw [present, wp, setHas_setAddRun]
    simp [hk]
  · rw [slot, ← wt]; split <;> rfl
  · rw [slot, ← wc]; split <;> rfl
  · rw [present, slot]
    by_cases f : w.full s.layout = true
    · rw [if_pos f, if_pos ((Slot.full_iff w s.layout).1 f)]
    · rw [if_neg f, if_neg (fun x => f ((Slot.full_iff w s.layout).2 x)), ws]
  · intro p h
    rw [data, wd]
    exact memRead_memWrite_run h
  · intro a h
    rw [data, wd]
    exact memRead_memWrite_other h
  · intro j hj
    rw [slots, State.completeIfFull_slot, if_neg (by simp [hj]), un j hj]
  · intro ch
    rw [chans, State.completeIfFull_chan, ui, ul, uc, unow, wt, wc]
    by_cases f : w.full s.layout = true
    · rw [if_pos f]
      unfold Channel.trackReady
      by_cases g : setHas s.store.slots[i].claims ch = true ∧ (s.chan ch).state = .waitingTrack ∧
          (s.chan ch).cursor = some t0
      · rw [if_pos ⟨g.1, g.2.1, g.2.2, rfl⟩, if_pos ⟨complete.2 f, g⟩]
        simp [Channel.enter, g.2.1, ChState.motor]
      · rw [if_neg (fun x => g ⟨x.1, x.2.1, x.2.2.1⟩), if_neg (fun x => g x.2)]
    · rw [if_neg f, if_neg (fun x => f (complete.1 x.1))]
  · have c : (u.completeIfFull i).control = u.control := (u.completeIfFull_fields i).2.2.2.2.2.1
    have due : (u.completeIfFull i).starvationDue = s.now + s.job.starvationTimeout * 1000000000 := by
      have job : (u.completeIfFull i).job = s.job := by rw [State.job, c]; subst hu; rfl
      rw [State.starvationDue, (u.completeIfFull_fields i).2.1, job, unow]
    have due' : (s.setSlot i w).starvationDue = s.now + s.job.starvationTimeout * 1000000000 := by
      have job : (s.setSlot i w).job = s.job := rfl
      rw [State.starvationDue, State.setSlot_now, job]
    have uctl : (u.completeIfFull i).control =
        { s.control with
          starvation := s.control.starvation.map fun _ => s.now + s.job.starvationTimeout * 1000000000 } := by
      rw [c, ← due', ← hu]; rfl
    have starving : (u.completeIfFull i).syncStarvation.dropHead.starving = (u.completeIfFull i).starving := rfl
    rw [e, starving]
    exact State.syncStarvation_restarted _ _ _ uctl due
  · obtain ⟨h1, h2, h3, h4, h5, h6, -⟩ := s.acceptSegment_fields i body
    exact ⟨h1, h2, h4, h5, h6, by rw [State.dropHead_link, h3]; rfl⟩
  · rw [e]
    show (u.completeIfFull i).store.fillCursor = _
    rw [State.completeIfFull_eq]
    subst hu
    split <;> rfl

end Sys2Proof.Machine
end

