-- ==== Sys2Proof/Laws/Tables.lean ====
section
/-!
SUPPORT. The run of a load's records (R147 to R149), said once for the four indexed tables: the good records at its front
are applied one after another, and the run goes on behind them.
-/

namespace Sys2Proof.Machine

variable {α : Type} {step : Nat → List Byte → State → RecordResult}

/-- A record that stops the load leaves the state as the records before it did. -/
theorem runRecords_of_stop {k j : Nat} {bs : List Byte} {s : State} {r : TableErrorReason}
    (h : step j bs s = .stop r) : runRecords step (k + 1) j bs s = (s, some (j, r)) := by
  simp [runRecords, h]

/-- A record that is applied is followed by the next position. -/
theorem runRecords_of_applied {k j : Nat} {bs rest : List Byte} {s t : State} (h : step j bs s = .applied t rest) :
    runRecords step (k + 1) j bs s = runRecords step k (j + 1) rest t := by
  simp [runRecords, h]

/-- The state after the entries `es` have been put at the positions from `j` on, in ascending order. -/
def putRun (put : Nat → α → State → State) : Nat → List α → State → State
  | _, [], s => s
  | j, e :: es, s => putRun put (j + 1) es (put j e s)

/-- Good records are applied, and the rest of the load is what stands behind them. `Inv` is what a step needs of the state,
and `limit` the position from which on the table takes no record. -/
theorem runRecords_good {Sent : List Byte → α → Prop} {put : Nat → α → State → State} {Inv : State → Prop} {limit : Nat}
    (applies : ∀ (j : Nat) (record rest : List Byte) (e : α) (s : State), j < limit → Inv s → Sent record e →
      step j (record ++ rest) s = .applied (put j e s) rest ∧ Inv (put j e s))
    (records : List (List Byte)) (es : List α) (j more : Nat) (tail : List Byte) (s : State) (len : records.length = es.length)
    (good : ∀ r ∈ records.zip es, Sent r.1 r.2) (room : j + records.length ≤ limit) (inv : Inv s) :
    runRecords step (records.length + more) j (records.flatten ++ tail) s =
        runRecords step more (j + records.length) tail (putRun put j es s) ∧ Inv (putRun put j es s) := by
  induction records generalizing es j s with
  | nil => cases es with
    | nil => simpa [putRun] using inv
    | cons => simp at len
  | cons r records ih => cases es with
    | nil => simp at len
    | cons e es =>
      simp only [List.length_cons] at len room
      have h := applies j r (records.flatten ++ tail) e s (by omega) inv (good (r, e) (by simp))
      have g := ih es (j + 1) (put j e s) (by omega) (fun x hx => good x (List.mem_cons_of_mem _ hx)) (by omega) h.2
      refine ⟨?_, g.2⟩
      rw [show (r :: records).length + more = (records.length + more) + 1 by simp only [List.length_cons]; omega, List.flatten_cons,
        List.append_assoc, runRecords_of_applied h.1, g.1, putRun,
        show j + (r :: records).length = j + 1 + records.length by simp only [List.length_cons]; omega]

end Sys2Proof.Machine
end

