-- ==== Sys2Proof/Tests/Slice0.lean ====
section
/-!
SUPPORT. Tests of the DC-8. First the checks of WellFormed on ill-formed terms, then the manual's own worked figures, then
for every statement that has hypotheses a state and operands that meet them, clause by clause.
-/

namespace Sys2Proof.Tests

open Sys2Proof.Machine

/-! ### Well-formed commands -/

theorem test_wellFormed_data_field : (Instr.dataFieldRead 0 0x6C [0x00]).wellFormed = true := by decide

/-- 0x5A is the header mark's code (R8), so it comes with no data field. -/
theorem test_ill_formed_mark_code : (Instr.dataFieldRead 0 0x5A []).wellFormed = false := by decide

/-- A field of 1,024 data bytes and its check is 1,026 bytes (R2, R8). -/
theorem test_ill_formed_length : (Instr.dataFieldRead 0 0x6B (List.replicate 1027 0x00)).wellFormed = false := by
  decide +kernel

/-- No row of the table has bits, so no word spells a command. -/
theorem test_no_word : decodeTableWord 8 0x10 = none ∧ State.reset.withFetchWord 8 0x10 = State.reset := by decide

/-! ### The manual's worked figures -/

/-- The layout of section 1.6, with `n` sectors. -/
def workedLayout (density : Density) (n gapBMin tailMin : Nat) : Layout :=
  { density := density, heads := 2, cylinders := 80, sizeCode := 2, skew := 0, leadIn := 146, syncRun := 12, gapA := 22
    gapB := 84, gapBMin := gapBMin, tailMin := tailMin, spliceGuard := 16, fill := 0xE5, verify := .compare
    sectors := (List.range n).map fun i => ⟨BitVec.ofNat 8 (i + 1), .normal⟩ }

/-- Cases 1 to 6 of section 1.6. -/
theorem test_budget_cases :
    (workedLayout .h 18 40 100).available 200000 400 = 12459 ∧ (workedLayout .h 18 40 100).budget 200000 400 = some 84 ∧
      (workedLayout .h 21 6 100).budget 200000 400 = some 7 ∧ (workedLayout .h 21 6 100).budget 198000 400 = none ∧
      (workedLayout .h 21 6 200).budget 198000 400 = none ∧ (workedLayout .d 9 40 100).budget 200000 400 = some 84 ∧
      (workedLayout .h 18 40 100).budget 1800 2000 = none := by decide

/-- The tails planned of section 1.6. -/
theorem test_tails_planned :
    (workedLayout .h 18 40 100).tailPlanned 200000 400 84 = 469 ∧
      (workedLayout .h 21 6 100).tailPlanned 200000 400 7 = 112 ∧
      (workedLayout .d 9 40 100).tailPlanned 200000 400 84 = 153 := by decide

/-- The bytes to the last data check of section 1.7.1. -/
theorem test_truncation : (workedLayout .h 18 40 100).bytesToLastCheck 84 = 11906 ∧
    (workedLayout .h 21 6 100).bytesToLastCheck 7 = 12340 := by decide

/-- The second example of section 1.3.2: five sectors with skew 2, track 4. -/
theorem test_physical_order :
    let l := { workedLayout .h 0 40 100 with
      skew := 2, sectors := [⟨1, .normal⟩, ⟨3, .normal⟩, ⟨5, .normal⟩, ⟨2, .normal⟩, ⟨4, .deleted⟩] }
    l.physical 4 = [⟨2, .normal⟩, ⟨4, .deleted⟩, ⟨1, .normal⟩, ⟨3, .normal⟩, ⟨5, .normal⟩] ∧
      [1, 2, 3, 4, 5].map l.indexOf = [0, 1, 2, 3, 4] := by decide

/-- The check over the nine characters "123456789" (R9 names the generator and the start; the value is well known). -/
theorem test_check_value :
    cyclicCheck [0x31, 0x32, 0x33, 0x34, 0x35, 0x36, 0x37, 0x38, 0x39] = 0x29B1 := by decide +kernel

/-- Three revolutions of the qualification in section 5.7: the fourth, fifth and sixth edges. -/
theorem test_monitor_qualifies :
    let m : Monitor :=
      { Monitor.initial with
        running := true, lastEdge := some 822000000, history := [212000, 260000], periodLong := true }
    let e4 := m.leadingEdge Settings.default 1023200000 1023200000
    let e5 := e4.leadingEdge Settings.default 1223600000 1223600000
    let e6 := e5.leadingEdge Settings.default 1423400000 1423400000
    e4.count = 1 ∧ e5.stable = false ∧ e6.stable = true ∧ e6.history = [199800, 200400, 201200, 212000] ∧
      e6.planning = some 199800 ∧ e6.periodShort = false ∧ e6.periodLong = true := by decide

/-- Edge B of section 5.8: a short revolution ends STABLE. -/
theorem test_monitor_short :
    let m : Monitor :=
      { Monitor.initial with
        running := true, lastEdge := some 0, history := [200200, 200100, 199900, 200300], count := 3 }
    let b := m.leadingEdge Settings.default 193500000 193500000
    b.stable = false ∧ b.periodShort = true ∧ b.planning = some 193500 := by decide

/-- "KD-20417", the serial record of section 7.13. -/
def workedSerial : Serial := [0x4B, 0x44, 0x2D, 0x32, 0x30, 0x34, 0x31, 0x37]

/-- The four entries of section 7.13. -/
def workedPatches : Vector (Option Patch) 32 :=
  let none32 : Vector (Option Patch) 32 := Vector.replicate 32 none
  (((none32.set 2 (some ⟨0, 1, 16, 10, .serial, .replace, 0xFF, []⟩)).set 5
    (some ⟨0, 1, 24, 6, .copyNumber .decimalText, .replace, 0xFF, []⟩)).set 9
    (some ⟨0, 1, 30, 2, .channelNumber .binaryLowFirst, .or, 0x0F, []⟩)).set 12
    (some ⟨0, 1, 16, 2, .constant, .xor, 0xFF, [0x00, 0x20]⟩)

/-- The sector bytes 16..31 that section 7.13 gives after entry 12. -/
theorem test_patched_sector :
    ((List.range 16).map fun i =>
      patchByte workedPatches ⟨workedSerial, 0x20, 4721, 5⟩ 0 1 (16 + i) 0xA0) =
      [0x4B, 0x64, 0x2D, 0x32, 0x30, 0x34, 0x31, 0x37, 0x30, 0x30, 0x34, 0x37, 0x32, 0x31, 0xA5, 0xA0] := by
  decide

/-- The table of R140, and two rows of the table of R141. -/
theorem test_numbers :
    numberBytes .binaryHighFirst 4721 4 = [0x00, 0x00, 0x12, 0x71] ∧ numberBytes .binaryLowFirst 4721 2 = [0x71, 0x12] ∧
      numberBytes .binaryHighFirst 4721 1 = [0x71] ∧ numberBytes .decimalText 4721 3 = [0x37, 0x32, 0x31] ∧
      numberBytes .decimalText 65535 4 = [0x35, 0x35, 0x33, 0x35] := by decide

/-- The table of R142 for D = 0xA0 and s = 0x37. -/
theorem test_functions :
    let p : PatchFunction → Byte → Patch := fun f m => ⟨0, 1, 0, 1, .constant, f, m, []⟩
    (p .replace 0xFF).combine 0xA0 0x37 = 0x37 ∧ (p .replace 0x0F).combine 0xA0 0x37 = 0xA7 ∧
      (p .and 0xFF).combine 0xA0 0x37 = 0x20 ∧ (p .or 0xF0).combine 0xA0 0x37 = 0xB0 ∧
      (p .xor 0xFF).combine 0xA0 0x37 = 0x97 := by decide

/-- The COPY-RESULT body of section 11.4.2. -/
theorem test_copy_result_body :
    (Report.copyResult
      { channel := 3, copyNumber := 10, passTag := 21, outcome := .failed, retriesUsed := 3
        reason := some .verifyFailed, failingTrack := some 17, leastGap := some 52
        serial := some ([0x4B, 0x44, 0x2D, 0x32, 0x30, 0x34, 0x31, 0x38], .reissued)
        verifyDetail := some ⟨2, 8, .dataCheck⟩ }).body =
      [0x03, 0x00, 0x0A, 0x15, 0x02, 0x00, 0x03, 0x01, 0x06, 0x01, 0x11, 0x01, 0x34, 0x01, 0x08, 0x4B, 0x44, 0x2D, 0x32,
        0x30, 0x34, 0x31, 0x38, 0x02, 0x01, 0x02, 0x08, 0x02] := by decide

/-! ### Small states -/

/-- Two sectors of 128 bytes on each of two tracks. -/
def layout : Layout :=
  { density := .h, heads := 1, cylinders := 2, sizeCode := 0, skew := 1, leadIn := 1, syncRun := 4, gapA := 2, gapB := 4
    gapBMin := 1, tailMin := 1, spliceGuard := 1, fill := 0xE5, verify := .compare
    sectors := [⟨1, .normal⟩, ⟨2, .deleted⟩] }

def job : Job := ⟨0, .stream, 1, 1, .reissue, 20, 0x20, 400, 5, 2⟩

/-- The layout table holds one layout. -/
def tables : Tables := { State.reset.tables with layouts := State.reset.tables.layouts.set 0 (some layout) }

/-- A STABLE monitor after an edge at 0. -/
def turning : Monitor :=
  { Monitor.initial with
    running := true, lastEdge := some 0, pulseStart := some 0, history := [200000, 200000, 200000], count := 3
    indexTimer := some 412000000 }

/-- An enabled channel with its media in. -/
def channel (st : ChState) : Channel :=
  { Channel.initial with
    state := st, active := { Settings.default with enabled := true }
    lines := { Lines.initial with mediaPresent := true }
    monitor := if st.motor then turning else Monitor.initial }

/-- The copy of the examples. -/
def copy : CopyRecord := CopyRecord.enrolled 9 1 (some workedSerial)

/-- A channel at work on its first track. -/
def copying (st : ChState) : Channel := { channel st with cursor := some 0, copy := some copy, cylinder := some 0 }

/-- The part with a job, and channel 0 as given. -/
def idle (c : Channel) : State :=
  { State.reset with
    tables := tables, control := { PassControl.initial with job := some job }
    channels := State.reset.channels.set 0 c }

/-- The part with pass 9 open, and channel 0, its one live channel, as given. -/
def busy (c : Channel) : State :=
  { idle c with
    control :=
      { PassControl.initial with
        job := some job, copyNumber := 2
        pass := { PassRecord.initial with state := .opened, tag := 9, live := 0x01, enrolled := 0x01 } } }

/-- The state with this frame at the head. -/
def withHead (s : State) (kind : Byte) (body : List Byte) : State :=
  { s with link := { s.link with frames := [⟨.ready, kind, body⟩] } }

/-- Nine tracks of two sectors. -/
def longLayout : Layout := { layout with cylinders := 9 }

/-- The state with the long layout in force. -/
def long (s : State) : State := { s with tables := { tables with layouts := tables.layouts.set 0 (some longLayout) } }

/-- A format-only job. -/
def fillJob : Job := { job with source := .fill }

/-- The state with this job. -/
def withJob (s : State) (j : Job) : State := { s with control := { s.control with job := some j } }

/-- The state with slot 0 and the fill cursor as given. -/
def withSlot (s : State) (slot : Slot) (cursor : Nat) : State :=
  { s with store := { s.store with slots := s.store.slots.set 0 slot, fillCursor := cursor } }

/-- Slots COMPLETE with tracks 0 to 7. -/
def fullWindow (s : State) : State :=
  { s with
    store := { s.store with slots := Vector.ofFn fun i => ⟨.complete, some i, 0x3, 0x01, []⟩, fillCursor := 8 } }

/-- The part waiting for its first track. -/
def waiting : State := busy (copying .waitingTrack)

/-- A sector's worth of data. -/
def sector : List Byte := List.replicate 128 0x11

/-! ### Witnesses: the whole machine and its laws -/

theorem witness_StepTakesTheFrontCommand :
    { waiting with pending := [.reportSent] }.pending = .reportSent :: [] ∧ waiting.pending = [] := by decide

/-- A state with an open pass, a channel that waits for its track and a running starvation timer, and one command
waiting. -/
def lawful : State :=
  { waiting with pending := [.starvationTimeout], control := { waiting.control with starvation := some 5000000000 } }

theorem lawful_attempt : ∀ ch : ChannelNo, (lawful.chan ch).attempt = none ∧ (lawful.chan ch).pendingRecord = none ∧
    (lawful.chan ch).held = [] ∧ (lawful.chan ch).monitor.lastWidth = none := by decide

theorem lawful_slot : ∀ i : Fin 8, lawful.store.slots[i].track = none := by decide

theorem lawful_copying : ∀ ch : ChannelNo, (lawful.chan ch).cursor = (if ch = 0 then some 0 else none) ∧
    (lawful.chan ch).bound = if ch = 0 then some workedSerial else none := by decide

theorem witness_StepKeepsTablesLaw : TablesLaw lawful ∧ ∃ t, step lawful = .next t := by
  refine ⟨⟨?_, ?_, by decide, by decide, ?_, by decide, fun ch r h => ?_, by decide⟩, _, rfl⟩
  · have e : ∀ i : Fin 8, lawful.tables.layouts[i] = if i = 0 then some layout else none := by decide
    intro i l h
    rw [e] at h
    split at h
    · cases h; decide
    · cases h
  · have e : ∀ i : Fin 32, lawful.tables.patches[i] = none := by decide
    intro i p h
    rw [e] at h
    cases h
  · intro j h
    cases h; decide
  · rw [(lawful_attempt ch).2.1] at h
    cases h

theorem witness_StepKeepsLinkLaw : LinkLaw lawful ∧ ∃ t, step lawful = .next t := by
  refine ⟨⟨by decide, by decide, by decide, ?_, by decide, ?_, by decide, by decide, ?_, ?_, by decide⟩, _, rfl⟩
  · constructor
    · rintro ⟨f, h, -⟩; cases h
    · rintro ⟨r, h, -⟩; cases h
  · rintro r h; cases h
  · intro h; cases h
  · intro _; rfl

theorem witness_StepKeepsPoolLaw : PoolLaw lawful ∧ ∃ t, step lawful = .next t := by
  refine ⟨⟨by decide, by decide, fun ch v h => ?_⟩, _, rfl⟩
  rw [(lawful_copying ch).2] at h
  split at h
  · cases h; decide
  · cases h

theorem witness_StepKeepsPassLaw : PassLaw lawful ∧ ∃ t, step lawful = .next t :=
  ⟨⟨by decide, by decide, by decide, by decide, by decide, by decide, by decide, by decide, by decide, by decide,
    by decide, by decide⟩, _, rfl⟩

/-- The monitors of the channel that waits for its track, and of the others. -/
theorem lawful_monitor (ch : ChannelNo) : MonitorLaw (lawful.chan ch) := by
  refine ⟨?_, ?_, ?_, fun w h => ?_, ?_, ?_, ?_, ?_⟩
  case refine_4 => exact absurd ((lawful_attempt ch).2.2.2.symm.trans h) nofun
  all_goals revert ch; decide

/-- Every channel meets the channel law. -/
theorem lawful_channel (ch : ChannelNo) : ChannelLaw ch (lawful.chan ch) := by
  refine ⟨lawful_monitor ch, ?_, ?_, fun x h => ?_, fun x h => ?_, ⟨fun h => ?_, ?_⟩, ?_, ?_, ?_, ?_, ?_, ?_, ?_, ?_, ?_,
    ?_, ?_, ?_, ?_, ?_, ?_, ?_, ?_, ?_, ?_, ?_, ?_, ?_⟩
  case refine_3 => exact absurd ((lawful_attempt ch).1.symm.trans h) nofun
  case refine_4 => exact absurd ((lawful_attempt ch).1.symm.trans h) nofun
  case refine_5 => exact absurd h (by clear h; revert ch; decide)
  case refine_6 => exact fun x => absurd ((lawful_attempt ch).1.symm.trans x.choose_spec.1) nofun
  all_goals revert ch; decide

theorem lawful_channels : ChannelsLaw lawful := ⟨lawful_channel, by decide⟩

theorem lawful_window : WindowLaw lawful := by
  refine ⟨by decide, fun i h => absurd (by revert i; decide) h, ?_, by decide, by decide, by decide, ?_, by decide,
    by decide, ?_, ?_, ?_, ?_, ?_⟩
  · intro i j h
    exact absurd (by revert i; decide) h
  · intro i ch h
    exact absurd h (by revert i ch; decide)
  · intro i ch c t _ _ h
    exact absurd ((lawful_slot i).symm.trans h) nofun
  · intro ch c t _ _ _ h
    exact absurd h (Nat.not_lt_zero t)
  · intro ch c _ h
    rw [(lawful_copying ch).1] at h
    split at h
    · cases h; decide
    · cases h
  · intro ch a h
    rw [(lawful_attempt ch).1] at h
    cases h
  · intro ch _ h
    exact absurd h (by revert ch; decide)

theorem lawful_laws : Laws lawful :=
  ⟨witness_StepKeepsTablesLaw.1, witness_StepKeepsLinkLaw.1, witness_StepKeepsPoolLaw.1, witness_StepKeepsPassLaw.1,
    lawful_channels, lawful_window⟩

theorem witness_StepKeepsChannelsLaw : Laws lawful ∧ ∃ t, step lawful = .next t := ⟨lawful_laws, _, rfl⟩

theorem witness_StepKeepsWindowLaw : Laws lawful ∧ ∃ t, step lawful = .next t := ⟨lawful_laws, _, rfl⟩

/-! ### Witnesses: the image link -/

/-- A reception in progress. -/
def reception (d : Destination) (count length : Nat) : Reception :=
  { destination := d, count := count, kind := some 0x30, length := length, checkHigh := 0x12, byteError := false
    gapTimer := some 176000 }

/-- The part receiving a frame. -/
def receiving (r : Reception) : State :=
  { waiting with
    link := { waiting.link with reception := some r, frames := if r.destination = .entry then [⟨.receiving, 0x30, [0x09]⟩] else [] } }

/-- An entry FREE, the last one FREE, and none. -/
theorem witness_HuntingExaminesEachByte :
    (∀ n ∈ [0, 1, 2],
      let s := { waiting with link := { waiting.link with frames := List.replicate n ⟨.ready, 0x30, [9]⟩ } }
      s.link.reception = none ∧ s.link.frames.length ≤ 2 ∧ s.link.frames.length = n) ∧
      { waiting with link := { waiting.link with frames := List.replicate 2 ⟨.ready, 0x30, [9]⟩ } }.headFrame =
        some ⟨.ready, 0x30, [9]⟩ ∧
      exec (.linkByteReceived 0xC3 true true) waiting = .next waiting.beginFrame :=
  ⟨by decide, by decide, rfl⟩

/-- With an entry READY already, and the longest body. -/
theorem witness_GoodFrameBecomesReady :
    let s := withHead waiting 0x30 [0x09]
    s.link.reception = none ∧ s.link.frames.length < 2 ∧ (∀ f ∈ s.link.frames, f.state = .ready) ∧
      (0x5F : Byte) ∈ ([0x10, 0x20, 0x21, 0x30, 0x31, 0x40, 0x50, 0x5F] : List Byte) ∧
      (List.replicate 4112 (0x00 : Byte)).length ≤ 4112 := by
  refine ⟨rfl, by decide, by decide, by decide, ?_⟩
  exact Nat.le_of_eq List.length_replicate

/-- Every position of a frame with a body of one byte, the longest length, a body of none, and every destination. -/
theorem witness_CompletedFrameIsJudged :
    ∀ d ∈ [Destination.entry, .nothing, .silent],
      (∀ count ∈ [0, 1, 2, 3, 4, 5], (receiving (reception d count 1)).link.reception = some (reception d count 1)) ∧
        (reception d 2 4096).length + (0x10 : Byte).toNat ≤ 4112 ∧
        3 ≤ (reception d 3 1).count ∧ (reception d 3 1).count < (reception d 3 1).length + 3 ∧
        (reception d 4 1).count = (reception d 4 1).length + 3 ∧ (reception d 3 0).count = (reception d 3 0).length + 3 ∧
        (reception d 5 1).kind = some 0x30 ∧ (reception d 5 1).count = (reception d 5 1).length + 4 := by decide

/-- A length of 4,113: 0x10 and then 0x11. -/
theorem witness_FrameEndsBeforeItsCheck :
    ∀ d ∈ [Destination.entry, .nothing, .silent],
      (receiving (reception d 2 4096)).link.reception = some (reception d 2 4096) ∧
        4112 < (reception d 2 4096).length + (0x11 : Byte).toNat ∧
        (reception d 2 4096).gapTimer = some 176000 := by decide

theorem witness_ReportsAreSentWhole :
    { waiting with reports := [.poolLow 1] }.link.transmit = .idle ∧
      { waiting with reports := [.poolLow 1] }.reports = .poolLow 1 :: [] ∧
      { waiting with link := { waiting.link with transmit := .sending } }.link.transmit = .sending ∧
      { waiting.link with linkOut := [0xC3, 0xC0] }.linkOut[1]? = some 0xC0 ∧
      11 * { waiting.link with linkOut := [0xC3, 0xC0] }.linkOut.length ≤ 22 := by decide

/-- The byte 0xC0 on LINK OUT behind the start code: start bit, 0, 0, 0, 0, 0, 0, 1, 1, a parity bit of one, stop bit (R162);
then the line rests. -/
theorem test_link_out :
    (List.range 13).map (fun k => { waiting.link with linkOut := [0xC3, 0xC0] }.outLevel (11 + k)) =
      [false, false, false, false, false, false, false, true, true, true, true, true, true] := by decide

/-- The worked envelope of section 11.1, without its check bytes. -/
theorem test_envelope : (frameBytes 0x30 [0x15]).take 5 = [0xC3, 0x30, 0x00, 0x01, 0x15] := by decide

/-- The two bytes of the check over "123456789". -/
theorem witness_CheckLeavesNoRemainder : (0x29 : Byte) ++ (0xB1 : Byte) =
    cyclicCheck [0x31, 0x32, 0x33, 0x34, 0x35, 0x36, 0x37, 0x38, 0x39] := test_check_value.symm

/-- Every kind with a length, one byte off. -/
theorem witness_WrongLengthIsAnswered :
    (withHead waiting 0x20 [0, 0, 0]).headIs 0x20 [0, 0, 0] 1 ∧ [(0 : Byte), 0, 0].length < 4 ∧
      .layoutWrite ∈ commandsOf 0x20 0 ∧
      (withHead waiting 0x21 (List.replicate 15 0)).headIs 0x21 (List.replicate 15 0) 1 ∧
      (List.replicate 15 (0 : Byte)).length ≠ 14 ∧ .jobSet ∈ commandsOf 0x21 0 ∧
      (withHead waiting 0x30 []).headIs 0x30 [] 1 ∧ .passBegin 0 ∈ commandsOf 0x30 0 ∧
      (withHead waiting 0x31 [9, 9]).headIs 0x31 [9, 9] 1 ∧ .passAbort ∈ commandsOf 0x31 0 ∧
      (withHead waiting 0x40 [0]).headIs 0x40 [0] 1 ∧ .channelReset ∈ commandsOf 0x40 0 ∧
      (withHead waiting 0x50 [0, 0, 0]).headIs 0x50 [0, 0, 0] 1 ∧ .statusQuery ∈ commandsOf 0x50 0 := by decide

/-- A full queue, a query of nine reports with eight entries free, and a command of another kind. -/
theorem witness_HeadFrameWaits :
    { withHead waiting 0x30 [9] with reports := List.replicate 32 (.poolLow 1) }.freeEntries < 1 ∧
      { withHead waiting 0x50 [1, 0xFF] with reports := List.replicate 24 (.poolLow 1) }.freeEntries < 1 + setCard (0xFF : Byte) ∧
      (withHead waiting 0x50 [1, 0xFF]).headFrame = some ⟨.ready, 0x50, [1, 0xFF]⟩ ∧
      .statusQuery ∈ frameCommands 0 ∧ .statusQuery ∉ commandsOf 0x30 0 := by decide

/-! ### Witnesses: the Track Store -/

/-- A slot of the examples with its first sector present. -/
def filling : Slot := ⟨.filling, some 0, 0x1, 0x01, []⟩

/-- The first track's second sector. -/
def segment (track first count : Byte) (data : List Byte) : List Byte := 9 :: track :: first :: count :: data

/-- A segment of one sector that passes R21 to R23. -/
theorem checked (s : State) (t k : Byte) (h : s.headIs 0x10 (s.control.pass.tag :: t :: k :: 1 :: sector) 1)
    (o : s.passOpen = true) (f : s.formatOnly = false) (r : t.toNat < s.layout.tracks)
    (n : k.toNat + (1 : Byte).toNat ≤ s.layout.n) (z : s.layout.size = 128) : SegmentChecked s t k 1 sector :=
  ⟨h, o, f, r, ⟨by decide, n⟩, by rw [z]; decide +kernel⟩

/-- No pass, another tag; a COMPLETE slot; a full window. -/
theorem witness_SegmentIsSetAsideOrWaits :
    ((withHead (idle (channel .ready)) 0x10 [9]).headIs 0x10 [9] 1 ∧ (idle (channel .ready)).passOpen = false) ∧
      ((withHead waiting 0x10 [8]).headIs 0x10 [8] 1 ∧ ([8] : List Byte).head? ≠ some waiting.control.pass.tag) ∧
      (let s := withHead (withSlot waiting ⟨.complete, some 0, 0x3, 0x01, []⟩ 1) 0x10 (segment 0 1 1 sector);
        SegmentChecked s 0 1 1 sector ∧ (∀ j : Fin 8, s.store.slots[j].track = some (0 : Byte).toNat ↔ j = 0) ∧
        s.store.slots[(0 : Fin 8)].state = .complete) ∧
      (let s := withHead (fullWindow (long waiting)) 0x10 (segment 8 0 1 sector);
        SegmentChecked s 8 0 1 sector ∧ (8 : Byte).toNat = s.store.fillCursor ∧
        ∀ j : Fin 8, s.store.slots[j].state = .complete ∧ s.store.slots[j].track ≠ some (8 : Byte).toNat) := by
  refine ⟨by decide, by decide, ⟨checked _ 0 1 ?_ ?_ ?_ ?_ ?_ ?_, by decide, by decide⟩,
    ⟨checked _ 8 0 ?_ ?_ ?_ ?_ ?_ ?_, by decide, by decide⟩⟩
  all_goals decide

/-- A format-only pass; two bytes of header; the first track, the first run and the first length beyond the layout. -/
theorem witness_SegmentOffTheLayoutIsRefused :
    (let s := withHead (withJob waiting fillJob) 0x10 [9];
      s.headIs 0x10 (s.control.pass.tag :: []) 1 ∧ s.passOpen = true ∧ s.formatOnly = true) ∧
      (let s := withHead waiting 0x10 [9, 0, 0];
        s.headIs 0x10 (s.control.pass.tag :: [0, 0]) 1 ∧ s.passOpen = true ∧ s.formatOnly = false ∧
          ([0, 0] : List Byte).length < 3) ∧
      (let s := withHead waiting 0x10 (segment 2 0 1 []);
        s.headIs 0x10 (s.control.pass.tag :: 2 :: 0 :: 1 :: []) 1 ∧ s.layout.tracks ≤ (2 : Byte).toNat) ∧
      (let s := withHead waiting 0x10 (segment 1 1 2 []);
        s.headIs 0x10 (s.control.pass.tag :: 1 :: 1 :: 2 :: []) 1 ∧ (1 : Byte).toNat < s.layout.tracks ∧
          s.layout.n < (1 : Byte).toNat + (2 : Byte).toNat) ∧
      (let s := withHead waiting 0x10 (segment 1 2 0 []);
        s.headIs 0x10 (s.control.pass.tag :: 1 :: 2 :: 0 :: []) 1 ∧ (1 : Byte).toNat < s.layout.tracks) ∧
      let s := withHead waiting 0x10 (segment 1 1 1 [0x11])
      s.headIs 0x10 (s.control.pass.tag :: 1 :: 1 :: 1 :: [0x11]) 1 ∧ (1 : Byte).toNat + (1 : Byte).toNat ≤ s.layout.n ∧
        [(0x11 : Byte)].length ≠ (1 : Byte).toNat * s.layout.size := by decide

/-- One track below the fill cursor, one above it, and the track at it behind a FILLING slot. -/
theorem witness_SegmentOutOfPlaceIsRefused :
    (let s := withHead { waiting with store := { waiting.store with fillCursor := 1 } } 0x10 (segment 0 0 1 sector);
      SegmentChecked s 0 0 1 sector ∧ (∀ j : Fin 8, s.store.slots[j].track ≠ some (0 : Byte).toNat) ∧
        (0 : Byte).toNat < s.store.fillCursor) ∧
      (let s := withHead waiting 0x10 (segment 1 0 1 sector);
        SegmentChecked s 1 0 1 sector ∧ (∀ j : Fin 8, s.store.slots[j].track ≠ some (1 : Byte).toNat) ∧
          s.store.fillCursor < (1 : Byte).toNat) ∧
      let s := withHead (withSlot waiting filling 1) 0x10 (segment 1 0 1 sector)
      SegmentChecked s 1 0 1 sector ∧ (∀ j : Fin 8, s.store.slots[j].track ≠ some (1 : Byte).toNat) ∧
        (1 : Byte).toNat = s.store.fillCursor ∧ ∃ j : Fin 8, s.store.slots[j].state = .filling := by
  refine ⟨⟨checked _ 0 0 ?_ ?_ ?_ ?_ ?_ ?_, by decide, by decide⟩, ⟨checked _ 1 0 ?_ ?_ ?_ ?_ ?_ ?_, by decide, by decide⟩,
    checked _ 1 0 ?_ ?_ ?_ ?_ ?_ ?_, by decide, by decide, by decide⟩
  all_goals decide

/-- The segment that completes the slot. -/
theorem witness_SegmentFillsItsSlot :
    let s := withHead (withSlot waiting filling 1) 0x10 (segment 0 1 1 sector)
    SegmentChecked s 0 1 1 sector ∧ (∀ j : Fin 8, s.store.slots[j].track = some (0 : Byte).toNat ↔ j = 0) ∧
      s.store.slots[(0 : Fin 8)].state = .filling := by
  refine ⟨checked _ 0 1 ?_ ?_ ?_ ?_ ?_ ?_, by decide, by decide⟩
  all_goals decide

/-- Slot 0 is COMPLETE and slot 1 the lowest FREE one. -/
theorem witness_SegmentTakesTheLowestFreeSlot :
    let s := withHead (withSlot waiting ⟨.complete, some 0, 0x3, 0x01, []⟩ 1) 0x10 (segment 1 0 1 sector)
    SegmentChecked s 1 0 1 sector ∧ (1 : Byte).toNat = s.store.fillCursor ∧
      (∀ j : Fin 8, s.store.slots[j].track ≠ some (1 : Byte).toNat ∧ s.store.slots[j].state ≠ .filling) ∧
      s.store.slots[(1 : Fin 8)].state = .free ∧ ∀ j : Fin 8, j < 1 → s.store.slots[j].state = .complete := by
  refine ⟨checked _ 1 0 ?_ ?_ ?_ ?_ ?_ ?_, by decide, by decide, by decide, by decide⟩
  all_goals decide

/-- The idle part with channel 0 READY. -/
def ready : State := idle (channel .ready)

/-! ### Witnesses: the tables -/

/-- A patch of the examples. -/
def patch : Patch := ⟨1, 2, 16, 10, .serial, .replace, 0xFF, List.replicate 16 0⟩

/-- The records' fields at the ends of their ranges. -/
theorem witness_RecordsAreReadBackAsSent :
    layout.valid = true ∧ { layout with cylinders := 84, heads := 2, leadIn := 1000, syncRun := 32 }.valid = true ∧
      patch.valid = true ∧ { patch with track := 167, offset := 1023, length := 16 }.valid = true ∧
      (Settings.default).inRange = true ∧
      { Settings.default with stepRate := 16, settle := 50, idleTimeout := 240, sortDelay := 255, sortWidth := 500, ejectTimeout := 60, manualPrecomp := 15, periodMax := 1048575, pulseMax := 65535 }.inRange = true ∧
      (⟨255, 15, 15⟩ : Precomp).boundary ≤ 255 ∧ (⟨255, 15, 15⟩ : Precomp).inner ≤ 15 ∧
      { job with retryLimit := 7, quota := 65535, writeDelay := 2000, starvationTimeout := 255, poolLowMark := 63 }.valid = true ∧
      tables.layouts[job.layoutIndex] = some layout := by decide

/-- The part with a TABLE-LOAD of `records` at the head, `count` of them counted. -/
def loading (s : State) (table : Byte) (start count : Nat) (records : List Byte) : State :=
  withHead s 0x20 (tableLoadBody table 0x01 start count records)

/-- A layout record that says UNUSED. -/
def unusedLayout : List Byte := 0x01 :: List.replicate 16 0

theorem layout_sent : Layout.Sent layout.encode (some layout) ∧ Layout.Sent unusedLayout none :=
  ⟨⟨by decide, rfl⟩, by decide, by decide⟩

/-- A whole record whose flag is neither clear nor set means nothing. -/
theorem layout_bad (e : Option Layout) : ¬Layout.Sent (0x02 :: List.replicate 16 0) e := by
  rcases e with _ | l
  · exact fun h => absurd h.1 (by decide)
  · exact fun h => absurd (congrArg List.head? h.2) (by simp [Layout.encode, byte1])

/-- The table's last two entries filled and emptied; a third record beyond the table; the layout in use by the open
pass; a record cut short; and one that means nothing. -/
theorem witness_LayoutRecordReplacesItsEntry :
    (loading waiting 0x01 6 2 (layout.encode ++ unusedLayout)).LoadCarries 0x01 Layout.Sent (fun r => 17 + 2 * num1 r 4) 6
        [some layout, none] none ∧
      (loading waiting 0x01 7 2 (layout.encode ++ unusedLayout)).LoadCarries 0x01 Layout.Sent (fun r => 17 + 2 * num1 r 4)
        7 [some layout, none] none ∧
      ((loading waiting 0x01 0 1 unusedLayout).LoadCarries 0x01 Layout.Sent (fun r => 17 + 2 * num1 r 4) 0 [none] none ∧
        waiting.passOpen = true ∧ waiting.job.layoutIndex = 0) ∧
      (loading waiting 0x01 6 3 (layout.encode ++ [0, 0, 0, 0])).LoadCarries 0x01 Layout.Sent
        (fun r => 17 + 2 * num1 r 4) 6 [some layout] (some .truncatedRecord) ∧
      (loading waiting 0x01 6 2 (layout.encode ++ 0x02 :: List.replicate 16 0)).LoadCarries 0x01 Layout.Sent
        (fun r => 17 + 2 * num1 r 4) 6 [some layout] (some .value) := by
  refine ⟨⟨[layout.encode, unusedLayout], 0, [], ?_⟩, ⟨[layout.encode, unusedLayout], 0, [], ?_⟩,
    ⟨⟨[unusedLayout], 0, [], ?_⟩, by decide, by decide⟩, ⟨[layout.encode], 2, [0, 0, 0, 0], ?_⟩,
    ⟨[layout.encode], 1, 0x02 :: List.replicate 16 0, ?_⟩⟩
  · exact ⟨by decide, by decide, by decide, rfl, by simp [layout_sent], rfl⟩
  · exact ⟨by decide, by decide, by decide, rfl, by simp [layout_sent], rfl⟩
  · exact ⟨by decide, by decide, by decide, rfl, by simp [layout_sent], rfl⟩
  · exact ⟨by decide, by decide, by decide, rfl, by simp [layout_sent], by decide, by decide⟩
  · exact ⟨by decide, by decide, by decide, rfl, by simp [layout_sent], by decide, by decide, layout_bad⟩

/-- Index 8; the layout in use; four bytes of a record, and a record one byte short; 85 cylinders; and the codes 2, 2, 3 and 2
in flag, density, verify level and the last mark kind. -/
theorem witness_LayoutRecordIsRefused :
    (withHead waiting 0x20 (tableLoadBody 0x01 0x01 8 1 [])).headIs 0x20 (tableLoadBody 0x01 0x01 8 1 []) 1 ∧
      (withHead waiting 0x20 (tableLoadBody 0x01 0x01 0 1 [])).headIs 0x20 (tableLoadBody 0x01 0x01 0 1 []) 1 ∧
      waiting.passOpen = true ∧ waiting.job.layoutIndex = 0 ∧
      (withHead waiting 0x20 (tableLoadBody 0x01 0x01 7 1 [0, 0, 0, 0])).headIs 0x20 (tableLoadBody 0x01 0x01 7 1 [0, 0, 0, 0]) 1 ∧
      [(0 : Byte), 0, 0, 0].length < 5 ∧ layout.encode.dropLast.length < 17 + 2 * num1 layout.encode.dropLast 4 ∧
      { layout with cylinders := 85 }.codable = true ∧ { layout with cylinders := 85 }.valid = false ∧
      ∀ r ∈ [layout.encode.set 0 2, layout.encode.set 1 2, layout.encode.set 16 3, layout.encode.set 20 2],
        (loading waiting 0x01 7 1 r).headIs 0x20 (tableLoadBody 0x01 0x01 (7 : Fin 8).val 1 r) 1 ∧
          17 + 2 * num1 r 4 ≤ r.length ∧
          (1 < num1 r 0 ∨ num1 r 0 = 0 ∧ (1 < num1 r 1 ∨ 2 < num1 r 16 ∨
            ∃ k < num1 r 4, 1 < num1 r (18 + 2 * k))) := by decide

/-- A patch record that says UNUSED. -/
def unusedPatch : List Byte := List.replicate 26 0

theorem patch_sent : Patch.Sent patch.encode (some patch) ∧ Patch.Sent unusedPatch none :=
  ⟨⟨by decide, rfl⟩, by decide, by decide⟩

/-- A whole record whose state is neither UNUSED nor IN-USE means nothing. -/
theorem patch_bad (e : Option Patch) : ¬Patch.Sent (List.replicate 26 0x02) e := by
  rcases e with _ | p
  · exact fun h => absurd h.1 (by decide)
  · exact fun h => absurd (congrArg List.head? h.2) (by simp [Patch.encode, byte1, List.replicate])

/-- A run that fills the table's last entries, one that goes one beyond them, one of no records, one cut short, and one with a
record that means nothing. -/
theorem witness_PatchRunFillsItsEntries :
    (let s := loading ready 0x02 30 2 (patch.encode ++ unusedPatch);
      s.LoadCarries 0x02 Patch.Sent (fun _ => 26) 30 [some patch, none] none ∧ s.passOpen = false) ∧
      (loading ready 0x02 31 2 (patch.encode ++ unusedPatch)).LoadCarries 0x02 Patch.Sent (fun _ => 26) 31
        [some patch, none] none ∧
      (loading ready 0x02 255 0 []).LoadCarries 0x02 Patch.Sent (fun _ => 26) 255 [] none ∧
      (loading ready 0x02 30 2 (patch.encode ++ List.replicate 25 0)).LoadCarries 0x02 Patch.Sent (fun _ => 26) 30
        [some patch] (some .truncatedRecord) ∧
      (loading ready 0x02 30 2 (patch.encode ++ List.replicate 26 0x02)).LoadCarries 0x02 Patch.Sent (fun _ => 26) 30
        [some patch] (some .value) := by
  refine ⟨⟨⟨[patch.encode, unusedPatch], 0, [], ?_⟩, by decide⟩, ⟨[patch.encode, unusedPatch], 0, [], ?_⟩,
    ⟨[], 0, [], ?_⟩, ⟨[patch.encode], 1, List.replicate 25 0, ?_⟩, ⟨[patch.encode], 1, List.replicate 26 0x02, ?_⟩⟩
  · exact ⟨by decide, by decide, by decide, rfl, by simp [patch_sent], rfl⟩
  · exact ⟨by decide, by decide, by decide, rfl, by simp [patch_sent], rfl⟩
  · exact ⟨by decide, by decide, by decide, rfl, by simp, rfl⟩
  · exact ⟨by decide, by decide, by decide, rfl, by simp [patch_sent], by decide, by decide⟩
  · exact ⟨by decide, by decide, by decide, rfl, by simp [patch_sent], by decide, by decide, patch_bad⟩

/-- An UNUSED record, a track beyond the range, state 2, source 4, form RAW with a number and a number's form with a constant,
function 4, CLEAR, and an open pass. -/
theorem witness_PatchTableIsClearedOrRefused :
    let s := idle (channel .ready)
    (withHead s 0x20 (tableLoadBody 0x02 0x01 31 1 (List.replicate 26 0))).headIs 0x20 (tableLoadBody 0x02 0x01 31 1 (List.replicate 26 0)) 1 ∧
      s.passOpen = false ∧ { patch with track := 168 }.codable = true ∧ { patch with track := 168 }.valid = false ∧
      { patch with length := 17 }.codable = true ∧ { patch with length := 17 }.valid = false ∧
      (∀ r ∈ [patch.encode.set 0 2, patch.encode.set 6 4, patch.encode.set 6 1, (patch.encode.set 6 3).set 7 1, patch.encode.set 8 4],
        (loading s 0x02 31 1 r).headIs 0x20 (tableLoadBody 0x02 0x01 (31 : Fin 32).val 1 r) 1 ∧ 26 ≤ r.length ∧
          (1 < num1 r 0 ∨ num1 r 0 = 1 ∧ (3 < num1 r 8 ∨
            ¬(num1 r 6 ∈ [0, 3] ∧ num1 r 7 = 0 ∨ num1 r 6 ∈ [1, 2] ∧ num1 r 7 ∈ [1, 2, 3])))) ∧
      (withHead s 0x20 (tableLoadBody 0x02 0x03 0 0 [])).headIs 0x20 (tableLoadBody 0x02 0x03 0 0 []) 1 ∧
      (withHead waiting 0x20 (tableLoadBody 0x02 0x01 255 1 [])).headIs 0x20 (tableLoadBody 0x02 0x01 255 1 []) 1 ∧
      waiting.passOpen = true := by decide

/-- 63 records and one bound: one more record meets a full pool; with 62 it joins. -/
theorem witness_PoolAppendJoinsTheTail :
    let s := withHead { waiting with pool := List.replicate 63 workedSerial } 0x20
      (tableLoadBody 0x03 0x02 0 [workedSerial].length ([workedSerial].flatMap Serial.record))
    let r := withHead { waiting with pool := List.replicate 62 workedSerial } 0x20
      (tableLoadBody 0x03 0x02 0 [workedSerial].length ([workedSerial].flatMap Serial.record))
    s.headIs 0x20 (tableLoadBody 0x03 0x02 0 [workedSerial].length ([workedSerial].flatMap Serial.record)) 1 ∧
      r.headIs 0x20 (tableLoadBody 0x03 0x02 0 [workedSerial].length ([workedSerial].flatMap Serial.record)) 1 ∧
      (∀ v ∈ [workedSerial], 1 ≤ v.length ∧ v.length ≤ 16) ∧ s.pool.length + s.boundCount = 64 ∧
      r.pool.length + r.boundCount = 63 := by decide

/-- No record, lengths 0 and 17, lengths 1 and 16 one byte short, and CLEAR. -/
theorem witness_PoolRecordIsRefusedAndPoolCleared :
    (∀ records ∈ [[], [0x00], [0x11], [0x01], 0x10 :: List.replicate 15 (0 : Byte)],
      (withHead waiting 0x20 (tableLoadBody 0x03 0x02 0 1 records)).headIs 0x20 (tableLoadBody 0x03 0x02 0 1 records) 1) ∧
      16 < (0x11 : Byte).toNat ∧ 1 ≤ (0x01 : Byte).toNat ∧ (0x10 : Byte).toNat ≤ 16 ∧
      (List.replicate 15 (0 : Byte)).length < (0x10 : Byte).toNat ∧
      (withHead waiting 0x20 (tableLoadBody 0x03 0x03 0 0 [])).headIs 0x20 (tableLoadBody 0x03 0x03 0 0 []) 1 := by decide

/-- Two records from index 0, the second beyond the table from index 1, one cut short, one that means nothing; and one record at
indexes 0, 1 and 2 with values 15 and 16. -/
theorem witness_PrecompRecordChangesHeldValues :
    let p : Precomp := ⟨255, 15, 15⟩
    (∀ start ∈ [0, 1], (loading waiting 0x04 start 2 (p.encode ++ p.encode)).LoadCarries 0x04 Precomp.Sent (fun _ => 3)
      start [p, p] none) ∧
    (loading waiting 0x04 0 2 (p.encode ++ [0, 0])).LoadCarries 0x04 Precomp.Sent (fun _ => 3) 0 [p]
      (some .truncatedRecord) ∧
    (loading waiting 0x04 0 2 (p.encode ++ [0, 0, 16])).LoadCarries 0x04 Precomp.Sent (fun _ => 3) 0 [p]
      (some .value) ∧
    ∀ start ∈ [0, 1, 2], ∀ p ∈ [(⟨255, 15, 15⟩ : Precomp), ⟨255, 16, 0⟩, ⟨0, 0, 16⟩],
      (withHead waiting 0x20 (tableLoadBody 0x04 0x01 start 1 p.encode)).headIs 0x20 (tableLoadBody 0x04 0x01 start 1 p.encode) 1 ∧
        p.boundary ≤ 255 ∧ p.outer ≤ 255 ∧ p.inner ≤ 255 ∧ start ≤ 255 := by
  have good : Precomp.Sent (Precomp.encode ⟨255, 15, 15⟩) ⟨255, 15, 15⟩ := ⟨by decide, by decide, by decide, rfl⟩
  have bad : ∀ p, ¬Precomp.Sent [0, 0, 16] p := by
    rintro p ⟨-, -, h, e⟩
    have := congrArg (num1 · 2) e
    simp [Precomp.encode, byte1, num1, byteAt] at this
    omega
  refine ⟨fun start h => ⟨[Precomp.encode ⟨255, 15, 15⟩, Precomp.encode ⟨255, 15, 15⟩], 0, [], ?_⟩,
    ⟨[Precomp.encode ⟨255, 15, 15⟩], 1, [0, 0], ?_⟩, ⟨[Precomp.encode ⟨255, 15, 15⟩], 1, [0, 0, 16], ?_⟩, by decide⟩
  · refine ⟨?_, ?_, by decide, rfl, by simp [good], rfl⟩ <;> revert start <;> decide
  · exact ⟨by decide, by decide, by decide, rfl, by simp [good], by decide, by decide⟩
  · exact ⟨by decide, by decide, by decide, rfl, by simp [good], by decide, by decide, bad⟩

/-- The enabled settings of the examples. -/
def enabled : Settings := { Settings.default with enabled := true }

theorem settings_sent : Settings.Sent enabled.encode enabled ∧ Settings.Sent Settings.default.encode Settings.default :=
  ⟨⟨enabled, by decide, by decide, rfl, by decide⟩, Settings.default, by decide, by decide, rfl, by decide⟩

/-- Channels 6 and 7 enabled and disabled from OFFLINE, EMPTY or a copy state, from channel 7 on beyond the table, and cut
short; and records with each code, value and limit that R157 does not allow. -/
theorem witness_ChannelRecordIsPlaced :
    (∀ start ∈ [6, 7], (loading waiting 0x05 start 2 (enabled.encode ++ Settings.default.encode)).LoadCarries 0x05
      Settings.Sent (fun _ => 22) start [enabled, Settings.default] none) ∧
    (loading waiting 0x05 0 2 (enabled.encode ++ List.replicate 21 0)).LoadCarries 0x05 Settings.Sent (fun _ => 22) 0
      [enabled] (some .truncatedRecord) ∧
    (waiting.chan 0).state.isCopy = true ∧ (waiting.chan 6).state = .offline ∧ (waiting.chan 6).active.enabled = false ∧
    ∀ r ∈ [enabled.encode.set 0 2, enabled.encode.set 1 2, enabled.encode.set 4 2, enabled.encode.set 10 2,
        enabled.encode.set 11 16, { enabled with periodMin := 1048576, periodMax := 1048577 }.encode,
        { enabled with periodMin := 206000 }.encode, { enabled with pulseMin := 8000 }.encode],
      (loading waiting 0x05 7 1 r).headIs 0x20 (tableLoadBody 0x05 0x01 (7 : ChannelNo).val 1 r) 1 ∧ 22 ≤ r.length ∧
        (1 < num1 r 0 ∨ 1 < num1 r 1 ∨ 1 < num1 r 4 ∨ 1 < num1 r 10 ∨ 15 < num1 r 11 ∨ 1048575 < num3 r 12 ∨
          1048575 < num3 r 15 ∨ num3 r 15 ≤ num3 r 12 ∨ num2 r 20 ≤ num2 r 18) := by
  refine ⟨fun start h => ⟨[enabled.encode, Settings.default.encode], 0, [], ?_⟩,
    ⟨[enabled.encode], 1, List.replicate 21 0, ?_⟩, by decide⟩
  · refine ⟨?_, ?_, by decide, rfl, by simp [settings_sent], rfl⟩ <;> revert start <;> decide
  · exact ⟨by decide, by decide, by decide, rfl, by simp [settings_sent], by decide, by decide⟩

/-- No such table; modes that their tables do not take. -/
theorem witness_UnknownLoadsAreRefused :
    (∀ b ∈ [[0x06, 0x01, 0, 0], [0x01, 0x02, 0, 0], [0x02, 0x02, 0, 0], [0x03, 0x01, 0, (0 : Byte)]],
      (withHead waiting 0x20 b).headIs 0x20 b 1) ∧
      (0x06 : Byte) ∉ ([0x01, 0x02, 0x03, 0x04, 0x05] : List Byte) ∧ (0x02 : Byte) ≠ 0x01 ∧ (0x02 : Byte) ≠ 0x03 := by
  decide

/-! ### Witnesses: the job and the pass -/

/-- Values above every clamp; a pass open, a wrong code, and each of the layout's faults. -/
theorem witness_JobSetIsTakenOrRefused :
    (let j : Job := { job with retryLimit := 255, writeDelay := 65535, starvationTimeout := 0, poolLowMark := 255 };
      (withHead ready 0x21 j.encode).headIs 0x21 j.encode 1 ∧ ready.passOpen = false ∧
        ready.control.pass.closure = none ∧ ready.tables.layouts[j.layoutIndex] = some layout) ∧
      ((withHead waiting 0x21 job.encode).headIs 0x21 job.encode 1 ∧ job.encode.length = 14 ∧ waiting.passOpen = true) ∧
      (∀ b ∈ [[0, 2, 1], [8, 0, 1], [1, 0, 1], [0, 0, 3], [0, 0, (2 : Byte)]],
        (withHead ready 0x21 (b ++ List.replicate 11 0)).headIs 0x21 (b ++ List.replicate 11 0) 1 ∧
          (b ++ List.replicate 11 0).length = 14) ∧
      1 < num1 [0, 2, 1] 1 ∧ 7 < num1 [8, 0, 1] 0 ∧ ready.tables.layouts[num1 [1, 0, 1] 0]? = some none ∧
      num1 [0, 0, 3] 2 ∉ [1, 2] ∧
      (let s : State := { ready with tables := { tables with layouts := tables.layouts.set 0 (some { layout with cylinders := 43 }) } };
        num1 [0, 0, 2] 2 = 2 ∧ s.tables.layouts[num1 [0, 0, 2] 0]? = some (some { layout with cylinders := 43 }) ∧
          42 < { layout with cylinders := 43 }.cylinders) := by decide

/-- The refusals of R46, one after another. -/
theorem witness_PassBeginIsRefusedInOrder :
    (∀ tag ∈ [(0 : Byte), 9],
      ∀ s ∈ [ready, waiting], (withHead s 0x30 [tag]).headIs 0x30 [tag] 1) ∧
      waiting.passOpen = true ∧ ready.passOpen = false ∧ ready.control.pass.closure = none ∧
      (withHead State.reset 0x30 [9]).headIs 0x30 [9] 1 ∧ State.reset.control.job = none ∧
      (withHead (withJob State.reset job) 0x30 [9]).headIs 0x30 [9] 1 ∧
      (withJob State.reset job).tables.layouts[job.layoutIndex] = none ∧
      (let s := withHead { ready with control := { ready.control with jobPassed := 20 } } 0x30 [9];
        s.headIs 0x30 [9] 1 ∧ job.quota ≠ 0 ∧ s.control.jobPassed = job.quota) ∧
      (let s := withHead { ready with tables := { tables with patches := tables.patches.set 31 (some { patch with track := 2 }) } } 0x30 [9];
        s.headIs 0x30 [9] 1 ∧ s.tables.patches[(31 : Fin 32)] = some { patch with track := 2 } ∧
          ¬({ patch with track := 2 }.track < layout.tracks) ∧
          ∀ k : Fin 32, k < 31 → s.tables.patches[k] = none) := by decide

/-- The pass that the examples begin: channel 0 READY, the others OFFLINE, one serial in the pool. -/
theorem witness_PassBeginEnrollsInOrder :
    let s := withHead { ready with
      pool := [workedSerial], tables := { tables with patches := tables.patches.set 0 (some patch) } } 0x30 [9]
    s.headIs 0x30 [9] 1 ∧ PassMayBegin s 9 job layout ∧ 1 ≤ s.control.copyNumber ∧ s.control.copyNumber ≤ 65535 ∧
      s.tables.patches.toList.any (fun e => e.any fun p => p.source == .serial) = true ∧
      channelsUp.filter (fun ch => (s.chan ch).state == .ready &&
        decide ((layout.cylinders - 1) * job.stepFactor ≤
          match (s.chan ch).active.driveType with
          | .track80 => 83
          | .track40 => 41)) = [0] := by
  refine ⟨by decide, ⟨by decide, by decide, rfl, by decide, by decide, fun i p h => ?_⟩, by decide, by decide, by decide,
    by decide⟩
  have e : ∀ i : Fin 32, (tables.patches.set 0 (some patch))[i] = if i = 0 then some patch else none := by decide
  have h' := (e i).symm.trans h
  split at h'
  · cases h'; decide
  · cases h'

/-- The tag of the open pass, and a running starvation timer. -/
theorem witness_AbortEndsEveryLiveCopy :
    (withHead waiting 0x31 [9]).headIs 0x31 [(withHead waiting 0x31 [9]).control.pass.tag] 1 ∧ waiting.passOpen = true ∧
      lawful.control.starvation = some 5000000000 := by decide

/-- No pass, another tag; channels 8 and 7. -/
theorem witness_CommandsAreRefused :
    (withHead ready 0x31 [9]).headIs 0x31 [9] 1 ∧ ready.passOpen = false ∧ (withHead waiting 0x31 [8]).headIs 0x31 [8] 1 ∧
      waiting.passOpen = true ∧ (8 : Byte) ≠ waiting.control.pass.tag ∧
      (withHead ready 0x40 [8, 1]).headIs 0x40 [8, 1] 1 ∧ 8 ≤ (8 : Byte).toNat ∧
      (withHead ready 0x40 [7, 4]).headIs 0x40 [7, 4] 1 ∧ (7 : Byte).toNat < 8 ∧
      (4 : Byte) ∉ ([0x01, 0x02, 0x03] : List Byte) := by decide

/-- A closure report held. -/
def closed : State :=
  { ready with
    control :=
      { ready.control with
        pass := { PassRecord.initial with tag := 9, closure := some ⟨9, .completed, 1, 0, 1, some 19⟩ } } }

theorem witness_PassClosedIsPlacedLast :
    closed.control.pass.closure = some ⟨9, .completed, 1, 0, 1, some 19⟩ ∧ closed.control.pass.enrolled = 0 ∧
      closed.reports.length < 32 := by decide

/-! ### Witnesses: the control of the channels, status and resets -/

/-- A channel frame at the head of a state whose channel 0 is in this state. -/
def control (st : ChState) (action : Byte) : State := withHead (busy (copying st)) 0x40 [0, action]

theorem witness_EnableActsByState :
    ∀ st ∈ [ChState.offline, .ready], (control st 0x01).headIs 0x40 [BitVec.ofNat 8 (0 : ChannelNo), 0x01] 1 ∧
      ((control st 0x01).chan 0).state = st := by decide

theorem witness_DisableActsByState :
    (∀ st ∈ [ChState.empty, .spinup, .ready, .stopped, .offline, .reporting, .rejecting, .sorting, .unload, .jammed, .writing],
      (control st 0x02).headIs 0x40 [BitVec.ofNat 8 (0 : ChannelNo), 0x02] 1 ∧ ((control st 0x02).chan 0).state = st) ∧
      ((control .writing 0x02).chan 0).state.isCopy = true ∧ ((control .writing 0x02).chan 0).copy = some copy := by decide

theorem witness_ChannelResetActsByState :
    ∀ st ∈ [ChState.reporting, .rejecting, .offline, .empty, .spinup, .ready, .stopped, .sorting, .unload, .jammed, .seeking],
      (control st 0x03).headIs 0x40 [BitVec.ofNat 8 (0 : ChannelNo), 0x03] 1 ∧ ((control st 0x03).chan 0).state = st := by
  decide

/-- A query of nothing; of the part and every channel with just the entries it needs; and of one channel. -/
theorem witness_StatusQueryReportsAndClears :
    (withHead waiting 0x50 [0, 0]).headIs 0x50 [0, 0] 1 ∧
      { withHead waiting 0x50 [1, 0xFF] with reports := List.replicate 23 (.poolLow 1) }.headIs 0x50 [1, 0xFF] (1 + setCard (0xFF : Byte)) ∧
      (withHead waiting 0x50 [0, 0x80]).headIs 0x50 [0, 0x80] (1 + setCard (0x80 : Byte)) := by decide

/-- A PART-RESET at the head, behind a query that waits, and behind a segment that waits. -/
theorem witness_PartResetResetsEveryBlock :
    ((withHead waiting 0x5F []).link.frames.filter Frame.isReady = ⟨.ready, 0x5F, []⟩ :: []) ∧
      (let s : State :=
          { waiting with
            reports := List.replicate 32 (.poolLow 1)
            link := { waiting.link with frames := [⟨.ready, 0x30, [9]⟩, ⟨.ready, 0x5F, []⟩] } };
        s.link.frames.filter Frame.isReady = ⟨.ready, 0x30, [9]⟩ :: [⟨.ready, 0x5F, []⟩] ∧ s.HeldUp ⟨.ready, 0x30, [9]⟩ ∧
          ∃ g, [(⟨.ready, 0x5F, []⟩ : Frame)].head? = some g ∧ g.kind = 0x5F) ∧
      (let s : State :=
          { fullWindow (long waiting) with
            link := { waiting.link with frames := [⟨.ready, 0x10, segment 8 0 1 sector⟩, ⟨.ready, 0x5F, []⟩] } };
        s.link.frames.filter Frame.isReady = ⟨.ready, 0x10, segment 8 0 1 sector⟩ :: [⟨.ready, 0x5F, []⟩] ∧
          s.HeldUp ⟨.ready, 0x10, segment 8 0 1 sector⟩) := by
  refine ⟨by decide, ⟨by decide, .inl (by decide), _, rfl, rfl⟩, by decide,
    .inr ⟨8, 0, 1, sector, checked _ 8 0 ?_ ?_ ?_ ?_ ?_ ?_, by decide, by decide⟩⟩
  all_goals decide

/-! ### Witnesses: the events of the channels -/

/-- A STABLE channel in REPORTING or REJECTING with this report held. -/
def placing (st : ChState) (r : Report) : State := busy { channel st with held := [r], copy := some copy }

/-- Nothing held, and a full queue; an event; a result with each sort; and both events of REJECTING. -/
theorem witness_HeldReportMovesTheChannelOn :
    (waiting.chan 0).held = [] ∧ 32 ≤ { waiting with reports := List.replicate 32 (.poolLow 1) }.reports.length ∧
      (∀ r ∈ [Report.channelEvent 0 .jammed, .channelEvent 0 .spindleStopped],
        ((placing .jammed r).chan 0).held = r :: [] ∧ (placing .jammed r).reports.length < 32) ∧
      (∀ sort ∈ [none, some Strobe.accept, some .reject], ∀ reset ∈ [true, false],
        let c := { (placing .reporting (.copyResult (copy.result 0))).chan 0 with
          copy := some { copy with sort := sort }, resetHeld := reset }
        c.held = .copyResult (copy.result 0) :: [] ∧ c.state = .reporting ∧ c.copy.bind (·.sort) = sort) ∧
      ∀ ev ∈ [ChannelEvent.writeProtected, .spinFault],
        ((placing .rejecting (.channelEvent 0 ev)).chan 0).held = .channelEvent 0 ev :: [] ∧
          ((placing .rejecting (.channelEvent 0 ev)).chan 0).state = .rejecting := by decide

/-- Every state of the table of R79, and both ends of SORTING. -/
theorem witness_MediaLineActsByState :
    (∀ st ∈ [ChState.offline, .empty, .reporting, .rejecting, .spinup, .ready, .stopped, .sorting, .unload, .jammed],
      ((idle (channel st)).chan 0).state = st) ∧
      (waiting.chan 0).state.isCopy = true ∧ (channel .sorting).lines.accept = false ∧
      (channel .sorting).lines.reject = false ∧
      { (channel .sorting).lines with reject := true }.reject = true := by decide

/-- The copying part with an edge to come at 200 ms. -/
theorem witness_EdgesAreMeasured :
    (waiting.chan 0).monitor.running = true ∧ (waiting.chan 0).monitor.lastEdge = some 0 ∧
      ((idle (channel .empty)).chan 0).monitor.running = false := by decide

/-- A copy, a READY channel that is STABLE, and one in REPORTING. -/
theorem witness_IndexTimeoutActsByState :
    ((idle (channel .empty)).chan 0).monitor.running = false ∧
      (∀ s ∈ [waiting, ready, busy (channel .reporting)],
        (s.chan 0).monitor.running = true ∧ (s.chan 0).monitor.indexTimer = some 412000000) ∧
      (waiting.chan 0).state.isCopy = true ∧ (ready.chan 0).state = .ready ∧ (ready.chan 0).monitor.count = 3 ∧
      (channel .reporting).state.isCopy = false ∧ (channel .reporting).state ≠ .ready := by decide

/-- A channel in SPINUP with two in-limit periods: the next edge makes it STABLE, or does not. -/
def spinningUp : State := idle { channel .spinup with monitor := { turning with count := 2 } }

/-- A short revolution loses STABLE: 100 ms. -/
theorem witness_EdgeQualifiesTheDrive :
    (spinningUp.chan 0).monitor.running = true ∧ (spinningUp.chan 0).state = .spinup ∧
      ((spinningUp.edgeSeen 0 200000000 true).chan 0).monitor.count = 3 ∧
      ((spinningUp.edgeSeen 0 100000000 true).chan 0).monitor.count = 0 ∧
      (ready.chan 0).monitor.running = true ∧ (ready.chan 0).state = .ready ∧
      ((ready.edgeSeen 0 100000000 false).chan 0).monitor.count ≠ 3 ∧
      (∀ st ∈ [ChState.recalibrating, .seeking, .waitingTrack, .waitingIndex, .reporting, .rejecting],
        ((busy (copying st)).chan 0).monitor.running = true ∧ ((busy (copying st)).chan 0).state = st) ∧
      (((busy (copying .waitingIndex)).edgeSeen 0 100000000 false).chan 0).monitor.count ≠ 3 := by decide

/-- A recalibration before and after its 90th step, a seek, and a settle at the boundary cylinder. -/
theorem witness_StepsAndSettle :
    (∀ n ∈ [89, 90],
      let c := { copying .recalibrating with cylinder := none, recalSteps := n, stepTimer := some 3000000 }
      ((busy c).chan 0).state = .recalibrating ∧ ((busy c).chan 0).stepTimer = some 3000000 ∧
        ((busy c).chan 0).cursor = some 0 ∧ ((busy c).chan 0).recalSteps = n) ∧
      (let c := { copying .seeking with cylinder := some 255, stepTimer := some 3000000 };
        ((busy c).chan 0).state = .seeking ∧ ((busy c).chan 0).stepTimer = some 3000000 ∧
          ((busy c).chan 0).cursor = some 0) ∧
      let c := { copying .seeking with cylinder := some 255, settleTimer := some 3000000 }
      ((busy c).chan 0).state = .seeking ∧ ((busy c).chan 0).settleTimer = some 3000000 ∧
        ((busy c).chan 0).cursor = some 0 ∧ ((busy c).chan 0).cylinder = some 255 ∧
        (busy c).layout.density = .h ∧ (busy c).tables.precompH.boundary = 255 := by decide

/-- Each timer in the state it belongs to. -/
theorem witness_ChannelTimersExpire :
    ({ channel .spinup with spinUpTimer := some 5 }.state = .spinup ∧
        { channel .spinup with spinUpTimer := some 5 }.spinUpTimer = some 5) ∧
      ({ channel .ready with idleTimer := some 5 }.state = .ready ∧
        { channel .ready with idleTimer := some 5 }.idleTimer = some 5) ∧
      ({ copying .writing with recoveryTimer := some 5 }.state.isCopy = true ∧
        { copying .writing with recoveryTimer := some 5 }.recoveryTimer = some 5) ∧
      (∀ strobe ∈ [false, true], ∀ noted ∈ [false, true],
        let c := { channel .sorting with
          sortTimer := some 5, removalNoted := noted, lines := { (channel .sorting).lines with accept := strobe } }
        c.state = .sorting ∧ c.sortTimer = some 5 ∧ c.lines.accept = strobe ∧ c.lines.reject = false) ∧
      ({ channel .unload with ejectTimer := some 5 }.state = .unload ∧
        { channel .unload with ejectTimer := some 5 }.ejectTimer = some 5) := by decide

/-! ### Witnesses: the revolutions and the track -/

/-- The budget at the least gap that fits, and one byte-time too little. -/
theorem witness_BudgetPlansTheTrack :
    (workedLayout .h 21 6 120).budget 200000 400 = some 6 ∧ (workedLayout .h 21 6 141).budget 200000 400 = none := by
  decide

/-- One patch over the first track's second sector; what it makes of a byte 0. -/
theorem witness_PatchesActInOrder :
    let s := withSlot { waiting with tables := { tables with patches := tables.patches.set 31 (some { patch with track := 0 }) } }
      ⟨.complete, some 0, 0x3, 0x01, []⟩ 1
    let v : Nat → Byte := fun k => if k ≤ 31 then 0 else 0x2D
    18 < s.layout.size ∧ (s.chan 0).copy = some copy ∧ copy.serial.getD [] = workedSerial ∧
      v 0 = memRead s.store.slots[(0 : Fin 8)].data (s.layout.indexOf 2 * s.layout.size + 18) ∧
      s.tables.patches[(31 : Fin 32)] = some { patch with track := 0 } ∧
      (∀ k : Fin 32, k < 31 → s.tables.patches[k] = none ∧ v (k + 1) = v k) ∧
      v 32 = workedSerial.getD (18 - patch.offset) job.pad ∧ (s.sectorData 0 (.slot 0) 0 2)[18]? = some (v 32) := by
  decide

/-- An attempt on the first track. -/
def attempt (phase : Phase) (search : Search) : Attempt :=
  { source := .slot 0, track := 0, gap := 4, order := [1, 2], phase := phase, startEdge := 0
    writeBegan := if phase = .delay then none else some 400000
    writeEnded := if phase = .read then some 200000000 else none, lastCheck := false
    outcomes := if phase = .read then [⟨1, .noHeader, false⟩, ⟨2, .noHeader, false⟩] else [], search := search }

/-- The part at work on its first track, with this attempt. -/
def working (st : ChState) (a : Option Attempt) : State :=
  withSlot (busy { copying st with attempt := a }) ⟨.complete, some 0, 0x3, 0x01, []⟩ 1

/-- The state with another layout in force. -/
def withLayout (s : State) (l : Layout) : State :=
  { s with tables := { s.tables with layouts := s.tables.layouts.set 0 (some l) } }

/-- A budget that is over, one that fits, and a write start delay of 0; a STREAM and a FILL job. -/
theorem witness_EdgeBeginsAnAttempt :
    let s := working .waitingIndex none
    let u := s.recoverySeen 0 200000000 true
    (s.chan 0).monitor.running = true ∧ (s.chan 0).state = .waitingIndex ∧ (u.chan 0).monitor.count = 3 ∧
      (u.chan 0).monitor.history = 200000 :: 200000 :: 200000 :: [200000] ∧ (s.chan 0).cursor = some 0 ∧
      s.job.source = .stream ∧ s.store.slots[(0 : Fin 8)].state = .complete ∧
      s.store.slots[(0 : Fin 8)].track = some 0 ∧ (∀ j : Fin 8, ¬j < 0) ∧ (withJob s fillJob).job.source = .fill ∧
      s.layout.budget (min 200000 (min 200000 200000)) s.job.writeDelay = some 4 ∧ 0 < s.job.writeDelay ∧
      (withLayout s { layout with tailMin := 65535 }).layout.budget (min 200000 (min 200000 200000)) s.job.writeDelay = none ∧
      (withJob s { job with writeDelay := 0 }).job.writeDelay = 0 ∧
      (withJob s { job with writeDelay := 0 }).layout.budget (min 200000 (min 200000 200000)) 0 = some 4 := by
  decide

/-- Another state; and the delay and the write phase. -/
theorem witness_WriteStartLaysDownTheTrack :
    ((working .verifying (some (attempt .read .searching))).chan 0).state ≠ .writing ∧ ∀ phase ∈ [Phase.delay, .write],
      let s := working .writing (some (attempt phase .discarding))
      (s.chan 0).state = .writing ∧ (s.chan 0).attempt = some (attempt phase .discarding) ∧
        (attempt phase .discarding).phase = phase ∧
        (attempt .delay .discarding).writeBegan = none ∧ (attempt .write .discarding).writeBegan = some 400000 ∧
        (attempt .write .discarding).writeEnded = none := by decide

/-- The write position of section 6.1's fields: 0 in the delay, then a byte each 16 µs at density H, and at the end of the
revolution as the edge left it. -/
theorem test_write_position :
    (working .writing (some (attempt .delay .discarding))).writePosition 0 = some 0 ∧
      { working .writing (some (attempt .write .discarding)) with now := 431999 }.writePosition 0 = some 1 ∧
      { working .verifying (some (attempt .read .searching)) with now := 300000000 }.writePosition 0 = some 12475 := by
  decide

/-- STABLE lost; STABLE kept with the last check written or not; verify levels NONE and COMPARE. -/
theorem witness_EdgeEndsTheWrite :
    let s := working .writing (some (attempt .write .discarding))
    (s.chan 0).monitor.running = true ∧ (s.chan 0).state = .writing ∧
      (s.chan 0).attempt = some (attempt .write .discarding) ∧ (attempt .write .discarding).lastCheck = false ∧
      ((((s.recoverySeen 0 100000000 false).gateOff 0).chan 0).monitor.count ≠ 3) ∧
      ((((s.recoverySeen 0 200000000 false).gateOff 0).chan 0).monitor.count = 3) ∧
      (let w := working .writing (some { attempt .write .discarding with lastCheck := true });
        (w.chan 0).monitor.running = true ∧ (w.chan 0).state = .writing ∧
          (w.chan 0).attempt = some { attempt .write .discarding with lastCheck := true } ∧
          ((((w.recoverySeen 0 200000000 false).gateOff 0).chan 0).monitor.count = 3) ∧ w.layout.verify ≠ .off ∧
          (withLayout w { layout with verify := .off }).layout.verify = .off) := by decide

/-- The verify revolution of a track with these outcomes. -/
def verifying (rs : List SectorResult) (search : Search) : State :=
  working .verifying (some { attempt .read search with outcomes := rs })

/-- STABLE lost; every sector GOOD; the second bad, its data field being read. -/
theorem witness_EdgeEndsTheVerify :
    let s := verifying [⟨1, .good, true⟩, ⟨2, .good, true⟩] .searching
    let w := verifying [⟨1, .good, true⟩, ⟨2, .noHeader, true⟩] (.awaiting 1)
    (s.chan 0).monitor.running = true ∧ (s.chan 0).state = .verifying ∧
      ((s.recoverySeen 0 100000000 false).chan 0).monitor.count ≠ 3 ∧
      ((s.recoverySeen 0 200000000 false).chan 0).monitor.count = 3 ∧
      (∀ r ∈ [(⟨1, .good, true⟩ : SectorResult), ⟨2, .good, true⟩], r.outcome = .good) ∧
      (w.chan 0).monitor.running = true ∧ (w.chan 0).state = .verifying ∧
      ((w.recoverySeen 0 200000000 false).chan 0).monitor.count = 3 ∧
      ([(⟨1, .good, true⟩ : SectorResult), ⟨2, .noHeader, true⟩].modify 1 fun r => { r with outcome := .dataCheck }) =
        [⟨1, .good, true⟩] ++ ⟨2, .dataCheck, true⟩ :: [] := by decide

/-- The search in each of its places; a header of the second sector, right and wrong. -/
theorem witness_MarksGiveTheOutcomes :
    (∀ search ∈ [Search.discarding, .searching, .awaiting 0],
      let s := working .verifying (some (attempt .read search))
      (s.chan 0).state = .verifying ∧ (s.chan 0).attempt = some (attempt .read search) ∧
        (attempt .read search).phase = .read) ∧
      cyclicCheck [0xB5, 0xB5, 0xB5, 0x5A, 0, 0, 2, 0] ≠ 0 ∧
      (attempt .read .searching).outcomes = [⟨1, .noHeader, false⟩] ++ ⟨2, .noHeader, false⟩ :: [] ∧
      (attempt .read (.awaiting 0)).outcomes = [] ++ ⟨1, .noHeader, false⟩ :: [⟨2, .noHeader, false⟩] ∧
      ([0, 0, 2, 0] : List Byte) = [BitVec.ofNat 8 (0 / layout.heads), BitVec.ofNat 8 (0 % layout.heads), 2,
        BitVec.ofNat 8 layout.sizeCode] ∧
      sector.length = 128 * 2 ^ layout.sizeCode ∧ layout.sectors = [] ++ ⟨1, .normal⟩ :: [⟨2, .deleted⟩] := by
  decide +kernel

/-- The first track, its search begun. -/
theorem witness_TrackReadBackVerifiesGood :
    let s := working .verifying (some (attempt .read .searching))
    (s.chan 0).state = .verifying ∧ (s.chan 0).attempt = some (attempt .read .searching) ∧
      (attempt .read .searching).outcomes =
        (s.layout.sectors.rotateLeft (0 * s.layout.skew % s.layout.n)).map (fun e => ⟨e.id, .noHeader, false⟩) ∧
      (s.layout.sectors.map (·.id)).Nodup := by decide

end Sys2Proof.Tests
end

section
/-!
The revolution budget of R12 and the length of the track that it plans (R8, R10).
-/

namespace Sys2Proof.Machine

/-! ### The stages of the budget (R12) -/

/-- Stage 1 with R12's two cases and rates: with the whole revolution in the write start delay, nothing is available. -/
theorem Layout.available_eq (l : Layout) (p d : Nat) :
    l.available p d =
      if p ≤ d then 0 else (p - d) * (if l.density = .d then 31250 else 62500) / 1000000 - l.spliceGuard := by
  unfold Layout.available
  split
  next hle => rw [Nat.sub_eq_zero_of_le hle, Nat.zero_mul, Nat.zero_div, Nat.zero_sub]
  next => cases l.density <;> rfl

/-- The budget is over exactly when the gap space A − F − tail minimum, as an integer, is negative, or when the gap per
sector is below the least gap B. -/
theorem Layout.budget_eq (l : Layout) (p d : Nat) :
    l.budget p d =
      if (l.available p d : Int) - l.fixed - l.tailMin < 0 then none
      else if min l.gapB ((l.available p d - l.fixed - l.tailMin) / l.n) < l.gapBMin then none
      else some (min l.gapB ((l.available p d - l.fixed - l.tailMin) / l.n)) := by
  have negative_iff : (l.available p d : Int) - l.fixed - l.tailMin < 0 ↔ l.available p d < l.fixed + l.tailMin := by
    omega
  simp only [negative_iff]
  rfl

/-- What a budget that fits has passed: the gap space is there, and the gap is the lesser of gap B and the share. -/
theorem Layout.budget_eq_some_iff (l : Layout) (p d g : Nat) :
    l.budget p d = some g ↔
      l.fixed + l.tailMin ≤ l.available p d ∧
        g = min l.gapB ((l.available p d - l.fixed - l.tailMin) / l.n) ∧ l.gapBMin ≤ g := by
  simp only [Layout.budget]
  split
  next negative => exact ⟨nofun, fun ⟨space, _⟩ => absurd negative (Nat.not_lt.mpr space)⟩
  next space =>
    split
    next short => exact ⟨nofun, fun ⟨_, gap, least⟩ => absurd (gap ▸ short) (Nat.not_lt.mpr least)⟩
    next enough => rw [Option.some.injEq]; omega

/-- The fixed bytes, n gaps and the tail minimum find room in the available bytes, as the share rounds down. -/
theorem Layout.budget_fits {l : Layout} {p d g : Nat} (h : l.budget p d = some g) :
    l.gapBMin ≤ g ∧ g ≤ l.gapB ∧ l.fixed + l.n * g + l.tailMin ≤ l.available p d := by
  obtain ⟨space, gap, least⟩ := (l.budget_eq_some_iff p d g).mp h
  have share : l.n * g ≤ l.available p d - l.fixed - l.tailMin :=
    calc l.n * g ≤ l.n * ((l.available p d - l.fixed - l.tailMin) / l.n) :=
          Nat.mul_le_mul_left _ (gap ▸ Nat.min_le_right _ _)
      _ ≤ l.available p d - l.fixed - l.tailMin := Nat.mul_div_le _ _
  exact ⟨least, gap ▸ Nat.min_le_left _ _, by omega⟩

/-! ### The length of the track (R8, R10) -/

@[simp] theorem length_markSymbols (code : Byte) : (markSymbols code).length = 4 := rfl

@[simp] theorem length_byteSymbols (bs : List Byte) : (byteSymbols bs).length = bs.length := List.length_map _

@[simp] theorem length_checkBytes (c : Check) : (checkBytes c).length = 2 := rfl

@[simp] theorem Layout.length_header (l : Layout) (track : Nat) (id : Byte) : (l.header track id).length = 4 := rfl

/-- A list rotated left is its rest followed by its front, so no element is lost. -/
@[simp] theorem length_rotateLeft {α : Type} (xs : List α) (k : Nat) : (xs.rotateLeft k).length = xs.length := by
  simp only [List.rotateLeft]
  split
  next => rfl
  next => rw [List.length_append, List.length_drop, List.length_take]; omega

/-- Elements that all give lists of one length give a whole of that length for each of them. -/
theorem length_flatMap_of_const {α β : Type} {f : α → List β} {len : Nat} (h : ∀ x, (f x).length = len) (xs : List α) :
    (xs.flatMap f).length = xs.length * len := by
  induction xs with
  | nil => rw [List.flatMap_nil, List.length_nil, List.length_nil, Nat.zero_mul]
  | cons x xs ih => rw [List.flatMap_cons, List.length_append, ih, h, List.length_cons, Nat.succ_mul, Nat.add_comm]

@[simp] theorem Layout.length_physical (l : Layout) (track : Nat) : (l.physical track).length = l.n := by
  rw [Layout.physical, length_rotateLeft, Layout.n]

@[simp] theorem State.length_sectorData (s : State) (ch : ChannelNo) (source : Source) (track : Nat) (id : Byte) :
    (s.sectorData ch source track id).length = s.layout.size := by
  rw [State.sectorData, List.length_map, List.length_range]

/-- The table of R8, summed: a sector is its overhead V, its data and its gap B. -/
theorem Layout.length_sectorSymbols (l : Layout) (track : Nat) (e : SectorEntry) (data : List Byte) (g : Nat) :
    (l.sectorSymbols track e data g).length = l.overhead + data.length + g := by
  simp only [Layout.sectorSymbols, Layout.overhead, List.length_append, List.length_replicate, length_markSymbols,
    length_byteSymbols, Layout.length_header, length_checkBytes]
  omega

/-- The lead-in and n sectors of one length: F and n gaps. -/
theorem State.length_trackSymbols (s : State) (ch : ChannelNo) (source : Source) (track g : Nat) :
    (s.trackSymbols ch source track g).length = s.layout.fixed + s.layout.n * g := by
  have sector (e : SectorEntry) :
      (s.layout.sectorSymbols track e (s.sectorData ch source track e.id) g).length =
        s.layout.overhead + s.layout.size + g := by
    rw [Layout.length_sectorSymbols, State.length_sectorData]
  calc (s.trackSymbols ch source track g).length
      = s.layout.leadIn + s.layout.n * (s.layout.overhead + s.layout.size + g) := by
        rw [State.trackSymbols, List.length_append, List.length_replicate, length_flatMap_of_const sector,
          Layout.length_physical]
    _ = s.layout.fixed + s.layout.n * g := by simp only [Layout.fixed, Nat.mul_add, Nat.add_assoc]

/-- Settles O53: the budget's equation with the stages it starts from, the bounds of a gap that fits, and the length of
the track, each by its own lemma. -/
theorem budgetPlansTheTrack : Obligations.BudgetPlansTheTrack := by
  refine ⟨fun l p d a f ha hf => ?_, fun l p d g => Layout.budget_fits, State.length_trackSymbols⟩
  obtain rfl : a = l.available p d := ha.trans (l.available_eq p d).symm
  obtain rfl : f = l.fixed := hf
  exact ⟨l.budget_eq p d, fun _ => rfl⟩

end Sys2Proof.Machine
end

section
/-!
The taking of a TRACK-SEGMENT (R21 to R31): what R21 to R23 leave to the checks on the slots, and the refusals of a
segment whose track no slot holds (R25, R26).
-/

namespace Sys2Proof.Machine

/-! ### The slots by property -/

/-- A search of the slots finds nothing exactly when no slot has the property. -/
theorem State.findSlot_eq_none_iff {s : State} {p : Slot → Bool} :
    s.findSlot p = none ↔ ∀ i : Fin 8, p s.store.slots[i] = false :=
  ⟨State.findSlot_none, fun absent => List.find?_eq_none.mpr fun i _ => Bool.not_eq_true _ ▸ absent i⟩

/-- A search finds some slot as soon as one slot has the property. -/
theorem State.exists_findSlot_eq_some {s : State} {p : Slot → Bool} {j : Fin 8} (h : p s.store.slots[j] = true) :
    ∃ i, s.findSlot p = some i :=
  Option.ne_none_iff_exists'.mp fun absent => Bool.false_ne_true ((State.findSlot_none absent j).symm.trans h)

/-! ### The head segment -/

/-- A TRACK-SEGMENT at the head, with a report entry free, meets the fate that its body decides. -/
theorem exec_trackSegment {s : State} {body : List Byte} (h : s.headIs 0x10 body 1) :
    exec .trackSegment s = .next (s.applyFate body (s.segmentFate body)) := by
  obtain ⟨head, free⟩ := h
  change execTrackSegment s = _
  rw [execTrackSegment, head]
  have no_query : (0x10 : Byte) ≠ kindStatusQuery := by decide
  exact congrArg _ (if_pos ⟨rfl, Nat.le_trans (Frame.entriesNeeded_le_one _ no_query) free⟩)

/-- A refusal is one SEGMENT-REFUSED with the segment's tag and track, and the frame leaves its entry (R31). -/
theorem State.applyFate_refused {s : State} (free : 0 < s.freeEntries) (tag t : Byte) (rest : List Byte)
    (reason : SegmentReason) :
    s.applyFate (tag :: t :: rest) (.refused reason) = s.answered [.segmentRefused tag t reason] :=
  State.place_dropHead free _

/-- A head segment that is refused. -/
theorem exec_trackSegment_refused {s : State} {tag t : Byte} {rest : List Byte} {reason : SegmentReason}
    (h : s.headIs 0x10 (tag :: t :: rest) 1) (fate : s.segmentFate (tag :: t :: rest) = .refused reason) :
    exec .trackSegment s = .next (s.answered [.segmentRefused tag t reason]) := by
  rw [exec_trackSegment h, fate, State.applyFate_refused h.2]

/-! ### The checks against the layout (R23) -/

/-- No check against the layout refuses a segment of a track and sectors within it whose data has their length. -/
theorem Layout.segmentReason_eq_none {l : Layout} {tag t k0 c : Byte} {data : List Byte} (track : t.toNat < l.tracks)
    (some_sector : 1 ≤ c.toNat) (last_sector : k0.toNat + c.toNat ≤ l.n) (length : data.length = c.toNat * l.size) :
    l.segmentReason (tag :: t :: k0 :: c :: data) = none := by
  have body_length : (tag :: t :: k0 :: c :: data).length = 4 + c.toNat * l.size := by
    simp only [List.length_cons, length]; omega
  have track_field : num1 (tag :: t :: k0 :: c :: data) 1 = t.toNat := rfl
  have first_field : num1 (tag :: t :: k0 :: c :: data) 2 = k0.toNat := rfl
  have count_field : num1 (tag :: t :: k0 :: c :: data) 3 = c.toNat := rfl
  rw [Layout.segmentReason, body_length, track_field, first_field, count_field, if_neg (by omega),
    if_neg (Nat.not_le.mpr track), if_neg (by omega), if_neg (not_not_intro rfl)]

/-- A segment that passes R21 to R23 is left to the checks on the slots and the fill cursor. -/
theorem SegmentChecked.segmentFate_eq {s : State} {t k0 c : Byte} {data : List Byte}
    (h : SegmentChecked s t k0 c data) :
    s.segmentFate (s.control.pass.tag :: t :: k0 :: c :: data) = s.slotFate t.toNat := by
  obtain ⟨_, opened, stream, track, ⟨some_sector, last_sector⟩, length⟩ := h
  have tag_matches : s.tagMatches (s.control.pass.tag :: t :: k0 :: c :: data) = true := by
    simp only [State.tagMatches, opened, List.head?_cons, BEq.rfl, Bool.and_self]
  rw [State.segmentFate, if_pos tag_matches, if_neg (by simp only [stream, Bool.false_eq_true, not_false_eq_true]),
    Layout.segmentReason_eq_none track some_sector last_sector length]
  rfl

/-- The answer to a segment that passes R21 to R23 and that the slots and the fill cursor refuse. -/
theorem SegmentChecked.exec_refused {s : State} {t k0 c : Byte} {data : List Byte} {reason : SegmentReason}
    (h : SegmentChecked s t k0 c data) (fate : s.slotFate t.toNat = .refused reason) :
    exec .trackSegment s = .next (s.answered [.segmentRefused s.control.pass.tag t reason]) :=
  exec_trackSegment_refused h.head (h.segmentFate_eq.trans fate)

/-! ### A track that no slot holds (R25 to R28) -/

/-- With no slot holding the track, its place by the fill cursor decides, and at the cursor the state of the slots. -/
theorem State.slotFate_of_not_held {s : State} {t : Nat} (not_held : ∀ j : Fin 8, s.store.slots[j].track ≠ some t) :
    s.slotFate t =
      if t < s.store.fillCursor then .refused .stale
      else if s.store.fillCursor < t then .refused .outOfOrder
      else if (s.findSlot fun sl => sl.state == .filling).isSome then .refused .predecessorIncomplete
      else ((s.findSlot fun sl => sl.state == .free).map .allocated).getD .waits := by
  have held_by_none : (s.findSlot fun sl => sl.track == some t) = none :=
    State.findSlot_eq_none_iff.mpr fun j => beq_eq_false_iff_ne.mpr (not_held j)
  rw [State.slotFate, held_by_none]
  cases s.findSlot fun sl => sl.state == .filling with
  | some _ => rfl
  | none => cases s.findSlot fun sl => sl.state == .free <;> rfl

/-- Settles O21: the fate of a segment whose track no slot holds, below, above and at the fill cursor. -/
theorem segmentOutOfPlaceIsRefused : Obligations.SegmentOutOfPlaceIsRefused := by
  intro s t k0 c data checked not_held
  have fate := State.slotFate_of_not_held not_held
  refine ⟨fun below => checked.exec_refused ?stale, fun above => checked.exec_refused ?outOfOrder,
    fun at_cursor ⟨j, filling⟩ => checked.exec_refused ?predecessorIncomplete⟩
  case stale => rw [fate, if_pos below]
  case outOfOrder => rw [fate, if_neg (Nat.lt_asymm above), if_pos above]
  case predecessorIncomplete =>
    obtain ⟨i, found⟩ :=
      State.exists_findSlot_eq_some (p := fun sl => sl.state == .filling) (beq_iff_eq.mpr filling)
    rw [fate, if_neg (Nat.not_lt.mpr (Nat.le_of_eq at_cursor.symm)),
      if_neg (Nat.not_lt.mpr (Nat.le_of_eq at_cursor)), found, if_pos Option.isSome_some]

end Sys2Proof.Machine
end

section
/-!
The taking of a JOB-SET (R42, R43): what its body reads as, the refusals in R42's order, and the job that it sets.
-/

namespace Sys2Proof.Machine

/-! ### A pass open or a closure report held (R42, R46) -/

theorem State.passBusy_iff {s : State} :
    s.passBusy = true ↔ s.passOpen = true ∨ s.control.pass.closure ≠ none := by
  rw [State.passBusy, Bool.or_eq_true, Option.isSome_iff_ne_none]

theorem State.passBusy_eq_false_iff {s : State} :
    s.passBusy = false ↔ s.passOpen = false ∧ s.control.pass.closure = none := by
  rw [State.passBusy, Bool.or_eq_false_iff, Option.isSome_eq_false_iff, Option.isNone_iff_eq_none]

/-! ### The codes of a job (R185) -/

theorem readSource_code (source : ImageSource) : readSource (BitVec.ofNat 8 source.code) = some source := by
  cases source <;> rfl

theorem readPolicy_code (policy : SerialPolicy) : readPolicy (BitVec.ofNat 8 policy.code) = some policy := by
  cases policy <;> rfl

/-- The codes 0 and 1 name the two image sources, and no other code names one. -/
theorem readSource_eq_none_iff {b : Byte} : readSource b = none ↔ 1 < b.toNat := by
  rw [readSource]
  split
  case isTrue zero => exact iff_of_false (Option.some_ne_none _) (by bv_omega)
  case isFalse nonzero =>
    split
    case isTrue one => exact iff_of_false (Option.some_ne_none _) (by bv_omega)
    case isFalse not_one => exact iff_of_true rfl (by bv_omega)

/-- The codes 0 and 1 name the two serial policies, and no other code names one. -/
theorem readPolicy_eq_none_iff {b : Byte} : readPolicy b = none ↔ 1 < b.toNat := by
  rw [readPolicy]
  split
  case isTrue zero => exact iff_of_false (Option.some_ne_none _) (by bv_omega)
  case isFalse nonzero =>
    split
    case isTrue one => exact iff_of_false (Option.some_ne_none _) (by bv_omega)
    case isFalse not_one => exact iff_of_true rfl (by bv_omega)

/-! ### The numbers of a job (R184) -/

theorem toNat_byte_of_le {n : Nat} (h : n ≤ 255) : (BitVec.ofNat 8 n).toNat = n :=
  (BitVec.toNat_ofNat n 8).trans (Nat.mod_eq_of_lt (Nat.lt_succ_of_le h))

/-- A number sent as two bytes, high byte first, is read back. -/
theorem toNat_bytes_of_le {n : Nat} (h : n ≤ 65535) :
    (BitVec.ofNat 8 (n / 256)).toNat * 256 + (BitVec.ofNat 8 n).toNat = n := by
  simp only [BitVec.toNat_ofNat]
  omega

/-! ### The reading of a JOB-SET (R42, R43) -/

/-- The layout entry can be used at the step factor (R5, R42): a step factor of 2 reaches 42 cylinders. -/
def Layout.UsableAt (l : Layout) (stepFactor : Nat) : Prop :=
  stepFactor = 1 ∨ stepFactor = 2 ∧ l.cylinders ≤ 42

/-- R42's fault of the layout is the one that `readJob` looks for in an entry in use. -/
theorem Layout.not_usableAt_iff {l : Layout} {stepFactor : Nat} :
    ¬l.UsableAt stepFactor ↔
      (stepFactor ≠ 1 ∧ stepFactor ≠ 2) ∨ (stepFactor = 2 ∧ 42 < l.cylinders) := by
  unfold Layout.UsableAt
  omega

/-- The job with the clamps of R43. -/
def Job.clamped (j : Job) : Job :=
  { j with
    retryLimit := min 7 j.retryLimit
    writeDelay := min 2000 j.writeDelay
    starvationTimeout := max 1 j.starvationTimeout
    poolLowMark := min 63 j.poolLowMark }

/-- A source or a policy that its code does not name is check 2 of R42. -/
theorem readJob_value {tables : Tables} {body : List Byte} (unnamed : 1 < num1 body 1 ∨ 1 < num1 body 4) :
    readJob tables body = .error .value := by
  rcases unnamed with source | policy
  · rw [readJob, readSource_eq_none_iff.mpr source]
  · rw [readJob, readPolicy_eq_none_iff.mpr policy]
    cases readSource (byteAt body 1) <;> rfl

/-- A layout index off the table, an unused entry, and an entry that the step factor cannot use are check 3 of R42. -/
theorem readJob_layoutInvalid {tables : Tables} {body : List Byte} (source : num1 body 1 ≤ 1) (policy : num1 body 4 ≤ 1)
    (unusable : ∀ l, tables.layouts[num1 body 0]? = some (some l) → ¬l.UsableAt (num1 body 2)) :
    readJob tables body = .error .layoutInvalid := by
  obtain ⟨x, reads_source⟩ :=
    Option.ne_none_iff_exists'.mp (mt readSource_eq_none_iff.mp (Nat.not_lt.mpr source))
  obtain ⟨y, reads_policy⟩ :=
    Option.ne_none_iff_exists'.mp (mt readPolicy_eq_none_iff.mp (Nat.not_lt.mpr policy))
  rw [readJob, reads_source, reads_policy]
  dsimp only
  split
  case isFalse => rfl
  case isTrue index =>
    cases entry : tables.layouts[num1 body 0] with
    | none => rfl
    | some l =>
      have fault := unusable l (entry ▸ Vector.getElem?_eq_getElem index)
      exact if_pos (Layout.not_usableAt_iff.mp fault)

/-- A job sent in the bytes of R185, with a usable layout, is read back with its clamps. -/
theorem readJob_encode {tables : Tables} {j : Job} {l : Layout} (entry : tables.layouts[j.layoutIndex] = some l)
    (usable : l.UsableAt j.stepFactor) (retries : j.retryLimit ≤ 255) (quota : j.quota ≤ 65535)
    (delay : j.writeDelay ≤ 65535) (timeout : j.starvationTimeout ≤ 255) (mark : j.poolLowMark ≤ 255) :
    readJob tables j.encode = .ok j.clamped := by
  have step_byte : j.stepFactor ≤ 255 := by unfold Layout.UsableAt at usable; omega
  have index_field : num1 j.encode 0 = j.layoutIndex := toNat_byte_of_le (by omega)
  have source_field : readSource (byteAt j.encode 1) = some j.source := readSource_code j.source
  have step_field : num1 j.encode 2 = j.stepFactor := toNat_byte_of_le step_byte
  have retry_field : num1 j.encode 3 = j.retryLimit := toNat_byte_of_le retries
  have policy_field : readPolicy (byteAt j.encode 4) = some j.serialPolicy := readPolicy_code j.serialPolicy
  have quota_field : num2 j.encode 5 = j.quota := toNat_bytes_of_le quota
  have pad_field : byteAt j.encode 7 = j.pad := rfl
  have delay_field : num2 j.encode 8 = j.writeDelay := toNat_bytes_of_le delay
  have timeout_field : num1 j.encode 10 = j.starvationTimeout := toNat_byte_of_le timeout
  have mark_field : num1 j.encode 11 = j.poolLowMark := toNat_byte_of_le mark
  have entry_read : tables.layouts[j.layoutIndex.val] = some l := entry
  have no_fault := mt Layout.not_usableAt_iff.mpr (not_not_intro usable)
  simp only [readJob, source_field, policy_field, index_field, step_field, retry_field, quota_field, pad_field,
    delay_field, timeout_field, mark_field, j.layoutIndex.isLt, entry_read, dif_pos, if_neg no_fault]
  rfl

/-! ### The head JOB-SET -/

/-- A JOB-SET at the head, with a report entry free, is acted on and leaves its entry. -/
theorem exec_jobSet {s : State} {body : List Byte} (h : s.headIs 0x21 body 1) (length : body.length = 14) :
    exec .jobSet s = .next (s.jobSet body).dropHead := by
  have need : Frame.entriesNeeded ⟨.ready, 0x21, body⟩ ≤ 1 :=
    Frame.entriesNeeded_le_one _ (by decide : (0x21 : Byte) ≠ kindStatusQuery)
  have length_ok : Frame.lengthOk ⟨.ready, 0x21, body⟩ = true := beq_iff_eq.mpr length
  exact congrArg _ (State.takeFrame_taken h need length_ok rfl _)

/-- With a pass open or a closure report held a JOB-SET is refused (check 1 of R42). -/
theorem exec_jobSet_passBusy {s : State} {body : List Byte} (h : s.headIs 0x21 body 1) (length : body.length = 14)
    (busy : s.passBusy = true) : exec .jobSet s = .next (s.answered [.commandRefused 0x21 .passBusy 0]) := by
  rw [exec_jobSet h length, State.jobSet, if_pos busy, State.place_dropHead h.2]

/-- A JOB-SET that cannot be read is refused with the reason of its reading. -/
theorem exec_jobSet_refused {s : State} {body : List Byte} {reason : RefusalReason} (h : s.headIs 0x21 body 1)
    (length : body.length = 14) (idle : s.passBusy = false) (reading : readJob s.tables body = .error reason) :
    exec .jobSet s = .next (s.answered [.commandRefused 0x21 reason 0]) := by
  rw [exec_jobSet h length, State.jobSet, if_neg (Bool.not_eq_true _ ▸ idle), reading]
  exact congrArg _ (State.place_dropHead h.2 _)

/-- A JOB-SET that is read sets its job. -/
theorem exec_jobSet_taken {s : State} {body : List Byte} {j : Job} (h : s.headIs 0x21 body 1)
    (length : body.length = 14) (idle : s.passBusy = false) (reading : readJob s.tables body = .ok j) :
    exec .jobSet s = .next ((s.setJob j).answered []) := by
  rw [exec_jobSet h length, State.jobSet, if_neg (Bool.not_eq_true _ ▸ idle), reading]
  exact congrArg _ (State.dropHead_eq _)

/-- Settles O34: the checks of R42 in their order, then the job with its clamps and both counters restarted (R43). -/
theorem jobSetIsTakenOrRefused : Obligations.JobSetIsTakenOrRefused := by
  refine ⟨fun s j l head no_pass no_closure entry usable retries quota delay timeout mark => ?taken,
    fun s body head length => ⟨fun busy => ?busy, fun no_pass no_closure =>
      ⟨fun unnamed => ?value, fun source policy fault => ?layoutInvalid⟩⟩⟩
  case taken =>
    exact exec_jobSet_taken head rfl (State.passBusy_eq_false_iff.mpr ⟨no_pass, no_closure⟩)
      (readJob_encode entry usable retries quota delay timeout mark)
  case busy => exact exec_jobSet_passBusy head length (State.passBusy_iff.mpr busy)
  case value =>
    exact exec_jobSet_refused head length (State.passBusy_eq_false_iff.mpr ⟨no_pass, no_closure⟩)
      (readJob_value unnamed)
  case layoutInvalid =>
    refine exec_jobSet_refused head length (State.passBusy_eq_false_iff.mpr ⟨no_pass, no_closure⟩)
      (readJob_layoutInvalid source policy fun l entry => ?_)
    rcases fault with off_table | unused | no_factor | ⟨doubled, k, same_entry, tall⟩
    · have in_table : num1 body 0 < 8 := (Vector.getElem?_eq_some_iff.mp entry).1
      omega
    · cases entry.symm.trans unused
    · exact Layout.not_usableAt_iff.mpr (.inl (by simpa using no_factor))
    · cases entry.symm.trans same_entry
      exact Layout.not_usableAt_iff.mpr (.inr ⟨doubled, tall⟩)

end Sys2Proof.Machine
end

section
/-!
The refusals of a PASS-BEGIN (R5, R46, R145): the six conditions in their order, and the lowest patch entry off the
layout.
-/

namespace Sys2Proof.Machine

/-! ### The layout of the job (R5) -/

/-- The layout in force is the entry that the job names. -/
theorem State.layout_eq {s : State} {j : Job} {l : Layout} (job : s.control.job = some j)
    (entry : s.tables.layouts[j.layoutIndex] = some l) : s.layout = l := by
  rw [State.layout, job, Option.bind_some, entry, Option.getD_some]

theorem State.layoutFits_unused {s : State} {j : Job} (unused : s.tables.layouts[j.layoutIndex] = none) :
    s.layoutFits j = false := by
  rw [State.layoutFits, unused]

/-- An entry in use fits the job unless the step factor 2 takes it beyond 42 cylinders. -/
theorem State.layoutFits_used {s : State} {j : Job} {l : Layout} (entry : s.tables.layouts[j.layoutIndex] = some l) :
    s.layoutFits j = decide (j.stepFactor = 2 → l.cylinders ≤ 42) := by
  rw [State.layoutFits, entry]

/-! ### The patches against the layout (R145) -/

theorem Patch.fits_iff {p : Patch} {l : Layout} :
    p.fits l = true ↔ p.track < l.tracks ∧ p.sector ∈ l.sectors.map (·.id) ∧ p.offset + p.length ≤ l.size := by
  simp only [Patch.fits, Bool.and_eq_true, decide_eq_true_eq, List.contains_iff_mem, and_assoc]

/-- An entry that does not fit, with none below it that does not, is the one that R46 names. -/
theorem Tables.outside_eq_some {t : Tables} {l : Layout} {i : Fin 32} {p : Patch} (entry : t.patches[i] = some p)
    (off_layout : ¬p.fits l = true) (below_fit : ∀ k : Fin 32, k < i → ∀ q, t.patches[k] = some q → q.fits l = true) :
    t.outside l = some i.val := by
  refine List.findIdx?_eq_some_iff_getElem.mpr ⟨by simp, ?entry_off, fun k below => ?entry_fits⟩
  case entry_off =>
    have entry_at : t.patches[i.val] = some p := entry
    simpa [entry_at] using off_layout
  case entry_fits =>
    have in_table : k < 32 := Nat.lt_trans below i.isLt
    rw [Vector.getElem_toList]
    cases lower : t.patches[k] with
    | none => simp
    | some q => simp [below_fit ⟨k, in_table⟩ below q lower]

/-! ### The checks of R46 in their order -/

/-- The tag is the first thing looked at. -/
theorem State.passBeginRefusal_tagZero (s : State) : s.passBeginRefusal 0 = some (.tagZero, 0) := if_pos rfl

/-- Then a pass that is open or not yet reported. -/
theorem State.passBeginRefusal_passBusy {s : State} {tag : Byte} (nonzero : tag ≠ 0) (busy : s.passBusy = true) :
    s.passBeginRefusal tag = some (.passBusy, 0) := by
  rw [State.passBeginRefusal, if_neg nonzero, if_pos busy]

/-- Then the absence of a job. -/
theorem State.passBeginRefusal_noJob {s : State} {tag : Byte} (nonzero : tag ≠ 0) (idle : s.passBusy = false)
    (no_job : s.control.job = none) : s.passBeginRefusal tag = some (.noJob, 0) := by
  rw [State.passBeginRefusal, if_neg nonzero, if_neg (Bool.not_eq_true _ ▸ idle), no_job]

/-- With a job, what is left of R46 is the layout, the quota and the patches. -/
theorem State.passBeginRefusal_job {s : State} {tag : Byte} {j : Job} (nonzero : tag ≠ 0) (idle : s.passBusy = false)
    (job : s.control.job = some j) :
    s.passBeginRefusal tag =
      if s.layoutFits j = false then some (.layoutInvalid, 0)
      else if j.quota ≠ 0 ∧ s.control.jobPassed = j.quota then some (.quotaMet, 0)
      else (s.tables.outside s.layout).map fun i => (.patchOutsideLayout, i) := by
  rw [State.passBeginRefusal, if_neg nonzero, if_neg (Bool.not_eq_true _ ▸ idle), job]
  simp only [Bool.not_eq_true']

/-! ### The head PASS-BEGIN -/

/-- A PASS-BEGIN at the head, with a report entry free, is acted on and leaves its entry. -/
theorem exec_passBegin {s : State} {tag : Byte} (trackZero : ChannelSet) (h : s.headIs 0x30 [tag] 1) :
    exec (.passBegin trackZero) s = .next (s.passBegin trackZero [tag]).dropHead := by
  have need : Frame.entriesNeeded ⟨.ready, 0x30, [tag]⟩ ≤ 1 :=
    Frame.entriesNeeded_le_one _ (by decide : (0x30 : Byte) ≠ kindStatusQuery)
  exact congrArg _ (State.takeFrame_taken h need rfl rfl _)

/-- A refusal answers the frame and changes nothing else. -/
theorem exec_passBegin_refused {s : State} {tag : Byte} {trackZero : ChannelSet} {reason : RefusalReason} {detail : Nat}
    (h : s.headIs 0x30 [tag] 1) (refusal : s.passBeginRefusal tag = some (reason, detail)) :
    exec (.passBegin trackZero) s = .next (s.answered [.commandRefused 0x30 reason detail]) := by
  have tag_field : byteAt [tag] 0 = tag := rfl
  rw [exec_passBegin trackZero h, State.passBegin, tag_field, refusal]
  exact congrArg _ (State.place_dropHead h.2 _)

/-- Settles O35: each of R46's conditions refuses where those before it do not apply. -/
theorem passBeginIsRefusedInOrder : Obligations.PassBeginIsRefusedInOrder := by
  intro s tag trackZero head
  refine ⟨fun zero => exec_passBegin_refused head ?tagZero,
    fun nonzero busy => exec_passBegin_refused head ?passBusy, fun nonzero no_pass no_closure => ?idle⟩
  case tagZero => rw [zero, State.passBeginRefusal_tagZero]
  case passBusy => exact State.passBeginRefusal_passBusy nonzero (State.passBusy_iff.mpr busy)
  have idle := State.passBusy_eq_false_iff.mpr ⟨no_pass, no_closure⟩
  refine ⟨fun no_job => exec_passBegin_refused head (State.passBeginRefusal_noJob nonzero idle no_job),
    fun j job => ?job⟩
  have checks := State.passBeginRefusal_job nonzero idle job
  refine ⟨fun unused => exec_passBegin_refused head ?unused, fun l entry =>
    ⟨fun doubled tall => exec_passBegin_refused head ?tall, fun reachable =>
      ⟨fun limited met => exec_passBegin_refused head ?quotaMet, fun unmet i p patch off_layout below_fit =>
        exec_passBegin_refused head ?patchOutside⟩⟩⟩
  case unused => rw [checks, if_pos (State.layoutFits_unused unused)]
  case tall =>
    have unfit : ¬(j.stepFactor = 2 → l.cylinders ≤ 42) := fun reachable => Nat.not_le.mpr tall (reachable doubled)
    rw [checks, State.layoutFits_used entry, if_pos (decide_eq_false unfit)]
  all_goals
    rw [checks, State.layoutFits_used entry, decide_eq_true reachable, if_neg Bool.false_ne_true.symm]
  case quotaMet => rw [if_pos ⟨limited, met⟩]
  case patchOutside =>
    have quota_open : ¬(j.quota ≠ 0 ∧ s.control.jobPassed = j.quota) :=
      fun ⟨limited, met⟩ => unmet.elim limited (absurd met)
    have outside := Tables.outside_eq_some patch (mt Patch.fits_iff.mp off_layout)
      fun k below q lower => Patch.fits_iff.mpr (below_fit k below q lower)
    rw [if_neg quota_open, State.layout_eq job entry, outside, Option.map_some]

end Sys2Proof.Machine
end

section
/-!
The taking of a STATUS-QUERY (R101, R177 to R179): the reports that it forms and the counters and flags that they clear.
-/

namespace Sys2Proof.Machine

/-! ### The channels in ascending number (R47, R177) -/

theorem mem_channelsUp : ∀ ch : ChannelNo, ch ∈ channelsUp := by decide

/-- Eight records in their order are the records of the channels, or of the slots, counted upwards. -/
theorem toList_eq_map_channelsUp {α : Type} (v : Vector α 8) : v.toList = channelsUp.map fun i => v[i] := by
  have in_place : ∀ i : Fin 8, channelsUp[i] = i := by decide
  refine List.ext_getElem (Vector.length_toList.trans rfl) fun i _ below => ?entry
  rw [List.getElem_map, Vector.getElem_toList]
  exact congrArg (fun j : Fin 8 => v[j]) (in_place ⟨i, below⟩).symm

/-- The channels of a set, in ascending number. -/
def channelsOf (x : ChannelSet) : List ChannelNo := channelsUp.filter fun ch : ChannelNo => setHas x ch.val

theorem mem_channelsOf {x : ChannelSet} {ch : ChannelNo} : ch ∈ channelsOf x ↔ setHas x ch.val = true :=
  List.mem_filter.trans (and_iff_right (mem_channelsUp ch))

theorem nodup_channelsOf (x : ChannelSet) : (channelsOf x).Nodup :=
  List.Pairwise.filter _ (by decide : channelsUp.Nodup)

theorem length_channelsOf (x : ChannelSet) : (channelsOf x).length = setCard x := by
  have ascending : channelsUp.map (fun ch => ch.val) = List.range 8 := by decide
  rw [channelsOf, ← List.countP_eq_length_filter, setCard, ← ascending, List.countP_map]
  rfl

/-! ### The room in the Report Queue (R175) -/

/-- One more report at the tail leaves room for the others. -/
theorem State.room_after_report {s t : State} {r : Report} {n : Nat} (placed : t.reports = s.reports ++ [r])
    (room : n + 1 ≤ s.freeEntries) : n ≤ t.freeEntries := by
  rw [State.freeEntries] at room ⊢
  rw [placed, List.length_append, List.length_singleton]
  omega

/-! ### PART-STATUS (R177, R178) -/

/-- What PART-STATUS says of the job's quota, and of the channels and the slots, as it goes over them. -/
theorem State.partStatus_eq (s : State) :
    s.partStatus =
      { s.partStatus with
        quota := match s.control.job with
          | some j => j.quota
          | none => 0
        boundCount := (channelsUp.filter fun ch => (s.chan ch).bound.isSome).length
        slots := channelsUp.map fun i => s.store.slots[i].status } := by
  have bound : s.boundCount = (channelsUp.filter fun ch => (s.chan ch).bound.isSome).length := by
    rw [State.boundCount, toList_eq_map_channelsUp, List.countP_map, List.countP_eq_length_filter]
    rfl
  have slots : s.store.slots.toList.map Slot.status = channelsUp.map fun i => s.store.slots[i].status := by
    rw [toList_eq_map_channelsUp, List.map_map]
    rfl
  rw [← bound, ← slots, State.partStatus]
  cases s.control.job <;> rfl

/-- PART-STATUS with an entry free: the report as the part stands, and the two counters at 0. -/
theorem State.reportPart_eq {s : State} (free : 0 < s.freeEntries) :
    s.reportPart =
      { s with
        link := { s.link with receptionErrors := 0, staleSegments := 0 }
        reports := s.reports ++ [.partStatus s.partStatus] } := by
  rw [State.reportPart, State.place_eq free]
  rfl

/-! ### CHANNEL-STATUS (R101, R177, R179) -/

/-- The channel with its monitor's four flags clear. -/
def Channel.flagsCleared (c : Channel) : Channel := { c with monitor := c.monitor.flagsCleared }

/-- CHANNEL-STATUS with an entry free: the report as the channel stands, and the channel's flags clear. -/
theorem State.reportChannel_eq {s : State} (free : 0 < s.freeEntries) (ch : ChannelNo) :
    s.reportChannel ch =
      { s.modChan ch Channel.flagsCleared with reports := s.reports ++ [.channelStatus ((s.chan ch).status ch)] } := by
  rw [State.reportChannel, State.place_eq free]
  rfl

/-- A change of one channel and then of channels that are not it changes all of these together. -/
theorem State.mapChans_modChan {s : State} {f : Channel → Channel} {ch : ChannelNo} {chs : List ChannelNo}
    (other : ch ∉ chs) :
    ((s.modChan ch f).mapChans fun d c => if d ∈ chs then f c else c) =
      s.mapChans fun d c => if d ∈ ch :: chs then f c else c := by
  have same : ∀ d : ChannelNo, (if d ∈ chs then f ((s.modChan ch f).chan d) else (s.modChan ch f).chan d) =
      if d ∈ ch :: chs then f (s.chan d) else s.chan d := by
    intro d
    by_cases here : d = ch
    · subst here
      rw [State.chan_modChan_self, if_neg other, if_pos List.mem_cons_self]
    · simp only [State.chan_modChan_ne s f here, List.mem_cons, here, false_or]
  exact congrArg (fun channels => { s with channels }) (congrArg Vector.ofFn (funext same))

/-- A CHANNEL-STATUS for each of several channels, with an entry free for each: no report is about a channel that an
earlier one changed. -/
theorem State.foldl_reportChannel {chs : List ChannelNo} (nodup : chs.Nodup) {s : State}
    (room : chs.length ≤ s.freeEntries) :
    chs.foldl State.reportChannel s =
      { s.mapChans fun ch c => if ch ∈ chs then c.flagsCleared else c with
        reports := s.reports ++ chs.map fun ch => .channelStatus ((s.chan ch).status ch) } := by
  induction chs generalizing s with
  | nil =>
    have unchanged : (s.mapChans fun _ c => c) = s :=
      congrArg (fun channels => { s with channels }) (Vector.ext fun _ below => Vector.getElem_ofFn below)
    simp only [List.foldl_nil, List.not_mem_nil, if_false, unchanged, List.map_nil, List.append_nil]
  | cons ch chs ih =>
    obtain ⟨other, nodup⟩ := List.nodup_cons.mp nodup
    have free : 0 < s.freeEntries := Nat.lt_of_lt_of_le (Nat.succ_pos _) room
    have after := State.reportChannel_eq free ch
    have room_after : chs.length ≤ (s.reportChannel ch).freeEntries :=
      State.room_after_report (by rw [after]) room
    have formed : (chs.map fun d => Report.channelStatus (((s.reportChannel ch).chan d).status d)) =
        chs.map fun d => .channelStatus ((s.chan d).status d) :=
      List.map_congr_left fun d listed => by
        have kept : (s.reportChannel ch).chan d = s.chan d := by
          rw [after]
          exact State.chan_modChan_ne s _ fun same => other (same ▸ listed)
        rw [kept]
    rw [List.foldl_cons, ih nodup room_after, formed, ← State.mapChans_modChan other, List.map_cons,
      List.append_cons, after]
    rfl

/-! ### The head STATUS-QUERY -/

/-- A STATUS-QUERY at the head, with the entries free that its reports need, is acted on and leaves its entry. -/
theorem exec_statusQuery {s : State} {part : Byte} {set : ChannelSet} (h : s.headIs 0x50 [part, set] (1 + setCard set)) :
    exec .statusQuery s = .next (s.statusQuery [part, set]).dropHead :=
  congrArg _ (State.takeFrame_taken h (Nat.le_refl _) rfl rfl _)

/-- A query of something, with the entries free that its reports need. -/
theorem State.statusQuery_eq {s : State} {part : Byte} {set : ChannelSet} (room : 1 + setCard set ≤ s.freeEntries)
    (asked : part ≠ 0 ∨ set ≠ 0) :
    s.statusQuery [part, set] =
      { s.mapChans fun ch c => if ch ∈ channelsOf set then c.flagsCleared else c with
        link :=
          { s.link with
            receptionErrors := if part = 0 then s.link.receptionErrors else 0
            staleSegments := if part = 0 then s.link.staleSegments else 0 }
        reports := s.reports ++ (if part = 0 then [] else [.partStatus s.partStatus]) ++
          (channelsOf set).map fun ch => .channelStatus ((s.chan ch).status ch) } := by
  have something : ¬(byteAt [part, set] 0 = 0 ∧ byteAt [part, set] 1 = 0) := fun ⟨no_part, no_channel⟩ =>
    asked.elim (absurd no_part) (absurd no_channel)
  have act : s.statusQuery [part, set] =
      (channelsOf set).foldl State.reportChannel (if part = 0 then s else s.reportPart) := if_neg something
  have length := length_channelsOf set
  rw [act]
  by_cases no_part : part = 0
  · simp only [if_pos no_part]
    rw [State.foldl_reportChannel (nodup_channelsOf set) (by omega), List.append_nil]
    rfl
  · have part_first := State.reportPart_eq (s := s) (by omega)
    have room_after : (channelsOf set).length ≤ s.reportPart.freeEntries :=
      State.room_after_report (by rw [part_first]) (by omega)
    simp only [if_neg no_part]
    rw [State.foldl_reportChannel (nodup_channelsOf set) room_after, part_first]
    rfl

/-- Settles O43: a query of nothing is refused; any other forms its reports from the state at its taking. -/
theorem statusQueryReportsAndClears : Obligations.StatusQueryReportsAndClears := by
  refine ⟨fun s head => ?nothing, fun s part set head asked => ?reports⟩
  case nothing =>
    rw [exec_statusQuery head]
    exact congrArg _ (State.place_dropHead head.2 _)
  case reports =>
    refine ⟨_, exec_statusQuery head, ?placed, ?counters, fun ch => ?flags, ?unchanged⟩
    all_goals rw [State.statusQuery_eq head.2 asked]
    case placed =>
      rw [State.partStatus_eq]
      rfl
    case counters => rfl
    case flags =>
      have cleared : ((s.mapChans fun ch c => if ch ∈ channelsOf set then c.flagsCleared else c).chan ch) =
          if setHas set ch then (s.chan ch).flagsCleared else s.chan ch := by
        simp only [State.chan_mapChans, mem_channelsOf]
      exact cleared
    case unchanged => exact ⟨rfl, rfl, rfl, rfl, rfl, rfl⟩

end Sys2Proof.Machine
end

section
/-!
The patch unit (chapter 7): the bytes of a number in each form, an entry's source byte at a place of its field, and the
table's entries acting on a byte in ascending number.
-/

namespace Sys2Proof.Machine

/-! ### Numbers as bytes (R140, R141) -/

@[simp] theorem length_digits (base n len : Nat) : (digits base n len).length = len := by
  induction len generalizing n with
  | zero => rfl
  | succ len ih => rw [digits, List.length_append, ih, List.length_singleton]

/-- Digit `i` of `len`, counted from the most significant, has weight `base ^ (len - 1 - i)`. -/
theorem getElem?_digits {base len i : Nat} (n : Nat) (h : i < len) :
    (digits base n len)[i]? = some (n / base ^ (len - 1 - i) % base) := by
  induction len generalizing n with
  | zero => exact absurd h (Nat.not_lt_zero i)
  | succ len ih =>
    rw [digits]
    rcases Nat.lt_succ_iff_lt_or_eq.mp h with before_last | rfl
    · have weight : base * base ^ (len - 1 - i) = base ^ (len + 1 - 1 - i) := by
        rw [← Nat.pow_succ']
        congr 1
        omega
      rw [List.getElem?_append_left (by simpa using before_last), ih _ before_last, Nat.div_div_eq_div_mul, weight]
    · simp

/-- A byte keeps the low 8 bits of a number, so a digit to base 256 needs no remainder. -/
theorem byte_ofNat_mod (n : Nat) : BitVec.ofNat 8 (n % 256) = BitVec.ofNat 8 n :=
  BitVec.eq_of_toNat_eq (by simp)

/-- Byte `i` of a number's `len` bytes in a form. -/
def numberByte (form : NumberForm) (n len i : Nat) : Byte :=
  match form with
  | .binaryHighFirst => BitVec.ofNat 8 (n / 256 ^ (len - 1 - i))
  | .binaryLowFirst => BitVec.ofNat 8 (n / 256 ^ i)
  | .decimalText => BitVec.ofNat 8 (0x30 + n / 10 ^ (len - 1 - i) % 10)

theorem getElem?_numberBytes (form : NumberForm) (n : Nat) {len i : Nat} (h : i < len) :
    (numberBytes form n len)[i]? = some (numberByte form n len i) := by
  cases form with
  | binaryHighFirst =>
    rw [numberBytes, List.getElem?_map, getElem?_digits n h, Option.map_some, byte_ofNat_mod]
    rfl
  | binaryLowFirst =>
    have from_end : len - 1 - (len - 1 - i) = i := by omega
    rw [numberBytes, List.getElem?_reverse (by simpa using h), List.length_map, length_digits, List.getElem?_map,
      getElem?_digits n (by omega), Option.map_some, byte_ofNat_mod, from_end]
    rfl
  | decimalText =>
    rw [numberBytes, List.getElem?_map, getElem?_digits n h]
    rfl

/-! ### One entry (R138 to R142) -/

/-- The source byte at place `i` of an entry's field. -/
def Patch.sourceByte (p : Patch) (x : PatchContext) (i : Nat) : Byte :=
  match p.source with
  | .serial => x.serial.getD i x.pad
  | .constant => p.constant.getD i 0
  | .copyNumber form => numberByte form x.copyNumber p.length i
  | .channelNumber form => numberByte form x.channel p.length i

/-- A list padded to a length reads as the list with the padding as its default. -/
theorem getD_padded {α : Type} (xs : List α) (pad d : α) {len i : Nat} (h : i < len) :
    ((xs ++ List.replicate len pad).take len).getD i d = xs.getD i pad := by
  rw [List.getD_eq_getElem?_getD, List.getD_eq_getElem?_getD, List.getElem?_take_of_lt h]
  rcases Nat.lt_or_ge i xs.length with inside | beyond
  · rw [List.getElem?_append_left inside, List.getElem?_eq_getElem inside, Option.getD_some, Option.getD_some]
  · rw [List.getElem?_append_right beyond, List.getElem?_replicate_of_lt (by omega), List.getElem?_eq_none beyond,
      Option.getD_some, Option.getD_none]

theorem Patch.getD_sourceBytes (p : Patch) (x : PatchContext) {i : Nat} (h : i < p.length) :
    (p.sourceBytes x.serial x.pad x.copyNumber x.channel).getD i 0 = p.sourceByte x i := by
  unfold Patch.sourceBytes Patch.sourceByte
  cases p.source with
  | serial => exact getD_padded x.serial x.pad 0 h
  | constant => simp only [List.getD_eq_getElem?_getD, List.getElem?_take_of_lt h]
  | copyNumber form => simp only [List.getD_eq_getElem?_getD, getElem?_numberBytes form _ h, Option.getD_some]
  | channelNumber form => simp only [List.getD_eq_getElem?_getD, getElem?_numberBytes form _ h, Option.getD_some]

theorem Patch.covers_iff (p : Patch) (track : Nat) (id : Byte) (pos : Nat) :
    p.covers track id pos = true ↔
      p.track = track ∧ p.sector = id ∧ p.offset ≤ pos ∧ pos < p.offset + p.length := by
  simp only [Patch.covers, Bool.and_eq_true, beq_iff_eq, decide_eq_true_eq, and_assoc]

/-- An entry in use combines a byte that its field covers with its source byte there, and leaves any other. -/
theorem patchEntry_some (x : PatchContext) (track : Nat) (id : Byte) (pos : Nat) (d : Byte) (p : Patch) :
    patchEntry x track id pos d (some p) =
      if p.track = track ∧ p.sector = id ∧ p.offset ≤ pos ∧ pos < p.offset + p.length then
        p.combine d (p.sourceByte x (pos - p.offset))
      else d := by
  simp only [patchEntry, Patch.covers_iff]
  split
  next covered =>
    obtain ⟨-, -, start, stop⟩ := covered
    rw [p.getD_sourceBytes x (by omega)]
  next => rfl

/-! ### The table (R143) -/

/-- A fold ends in the last of its intermediate values. -/
theorem foldl_eq_of_steps {α β : Type} {f : β → α → β} (xs : List α) {v : Nat → β}
    (step : ∀ (k : Nat) (h : k < xs.length), v (k + 1) = f (v k) xs[k]) : xs.foldl f (v 0) = v xs.length := by
  induction xs generalizing v with
  | nil => rfl
  | cons x xs ih =>
    have first : v 1 = f (v 0) x := step 0 (Nat.zero_lt_succ _)
    rw [List.foldl_cons, ← first]
    exact ih (v := fun k => v (k + 1)) fun k h => step (k + 1) (Nat.succ_lt_succ h)

/-- What the 32 entries make of a byte, where `v k` is what the entries below `k` have made of it. -/
theorem patchByte_eq_of_steps {patches : Vector (Option Patch) 32} {x : PatchContext} {track : Nat} {id : Byte}
    {pos : Nat} {v : Nat → Byte} (step : ∀ k : Fin 32, v (k + 1) = patchEntry x track id pos (v k) patches[k]) :
    patchByte patches x track id pos (v 0) = v 32 := by
  have folded := foldl_eq_of_steps patches.toList (f := fun d entry => patchEntry x track id pos d entry) (v := v)
    fun k h => by
      rw [Vector.length_toList] at h
      rw [Vector.getElem_toList]
      exact step ⟨k, h⟩
  rwa [Vector.length_toList] at folded

/-! ### The sector that a channel forms (R144) -/

theorem State.patchContext_of_copy {s : State} {ch : ChannelNo} {copy : CopyRecord} (h : (s.chan ch).copy = some copy) :
    s.patchContext ch =
      { serial := copy.serial.getD [], pad := s.job.pad, copyNumber := copy.copyNumber, channel := ch } := by
  rw [State.patchContext, h, Option.getD_some]

theorem State.getElem?_sectorData (s : State) (ch : ChannelNo) (source : Source) (track : Nat) (id : Byte) {pos : Nat}
    (h : pos < s.layout.size) :
    (s.sectorData ch source track id)[pos]? =
      some (patchByte s.tables.patches (s.patchContext ch) track id pos (s.imageByte source id pos)) := by
  rw [State.sectorData, List.getElem?_map, List.getElem?_range h, Option.map_some]

/-- Settles O54: the byte at a position is the fold of the entries over the image's byte, and each entry is one of the
steps that `v` is given by. -/
theorem patchesActInOrder : Obligations.PatchesActInOrder := by
  intro s ch source track id pos copy serial v inside held serial_eq image step
  subst serial_eq
  have entry_step (k : Fin 32) :
      v (k + 1) = patchEntry (s.patchContext ch) track id pos (v k) s.tables.patches[k] := by
    rw [step k, State.patchContext_of_copy held]
    cases s.tables.patches[k] with
    | none => rfl
    | some p =>
      rw [patchEntry_some]
      rfl
  have image_byte : s.imageByte source id pos = v 0 := image.symm
  rw [State.getElem?_sectorData s ch source track id inside, image_byte, patchByte_eq_of_steps entry_step]

end Sys2Proof.Machine
end

section
/-!
A frame in reception (R164, R165): what each byte does by its position, and the judging of the whole frame.
-/

namespace Sys2Proof.Machine

/-! ### The byte on the line (R162, R163) -/

/-- A byte carries no byte error when its ones and its parity bit are odd in number and its stop bit is high. -/
theorem byteError_eq (b : Byte) (parity stop : Bool) :
    byteError b parity stop = !decide ((setCard b + if parity then 1 else 0) % 2 = 1 ∧ stop = true) := by
  rw [byteError, flagBit]
  rcases Nat.mod_two_eq_zero_or_one (setCard b + if parity then 1 else 0) with even | odd
  · simp [even]
  · simp [odd]

theorem exec_linkByteReceived_inFrame {s : State} {r : Reception} (inFrame : s.link.reception = some r) (b : Byte)
    (parity stop : Bool) :
    exec (.linkByteReceived b parity stop) s = .next (s.frameByte r b (byteError b parity stop)) := by
  have goes_on : s.linkByte b (byteError b parity stop) = s.frameByte r b (byteError b parity stop) := by
    rw [State.linkByte, inFrame]
  exact congrArg _ goes_on

/-! ### A byte by its position (R164) -/

/-- What every byte of a frame does to its reception, whatever its position: it counts, its byte error stays marked, and
the gap timing restarts. -/
def State.counted (s : State) (r : Reception) (bad : Bool) : Reception :=
  { r with count := r.count + 1, byteError := r.byteError || bad, gapTimer := s.gapDue }

/-- The reception goes on as `q`, and the entry of a frame that has one changes by `f`. -/
def State.takenInto (s : State) (d : Destination) (q : Reception) (f : Frame → Frame) : State :=
  { s with link := { s.link with
    reception := some q
    frames := if d = .entry then s.link.frames.map fun e => if e.state = .receiving then f e else e else s.link.frames } }

/-- A byte that belongs into the frame goes into its entry or into nothing (R169). -/
theorem State.takenInto_eq_ite (s : State) (d : Destination) (q : Reception) (f : Frame → Frame) :
    s.takenInto d q f = if d = .entry then (s.modReceiving f).receiving q else s.receiving q := by
  rw [State.takenInto]
  split <;> rfl

/-- A byte that does not belong into the frame leaves every entry as it is. -/
theorem State.takenInto_id (s : State) (d : Destination) (q : Reception) :
    (s.takenInto d q fun e => e) = s.receiving q := by
  simp [State.takenInto, State.receiving, State.modLink]

section
variable (s : State) {r : Reception} (b : Byte) (bad : Bool)

theorem State.frameByte_kind (first : r.count = 0) :
    s.frameByte r b bad =
      s.takenInto r.destination { s.counted r bad with kind := some b } fun e => { e with kind := b } := by
  rw [State.takenInto_eq_ite]
  exact if_pos first

theorem State.frameByte_lengthHigh (second : r.count = 1) :
    s.frameByte r b bad = s.receiving { s.counted r bad with length := 256 * b.toNat } := by
  rw [State.frameByte, if_neg (by omega), if_pos second, Nat.mul_comm]
  rfl

theorem State.frameByte_lengthLow (third : r.count = 2) (fits : r.length + b.toNat ≤ 4112) :
    s.frameByte r b bad = s.receiving { s.counted r bad with length := r.length + b.toNat } := by
  rw [State.frameByte, if_neg (by omega), if_neg (by omega), if_pos third]
  exact if_neg (Nat.not_lt.mpr fits)

theorem State.frameByte_body (after_length : 3 ≤ r.count) (before_check : r.count < r.length + 3) :
    s.frameByte r b bad = s.takenInto r.destination (s.counted r bad) fun e => { e with body := e.body ++ [b] } := by
  rw [State.frameByte, if_neg (by omega), if_neg (by omega), if_neg (by omega), if_pos (by omega),
    State.takenInto_eq_ite]
  rfl

theorem State.frameByte_checkHigh (after_body : r.count = r.length + 3) :
    s.frameByte r b bad = s.receiving { s.counted r bad with checkHigh := b } := by
  rw [State.frameByte, if_neg (by omega), if_neg (by omega), if_neg (by omega), if_neg (by omega), if_pos (by omega)]
  rfl

theorem State.frameByte_checkLow (last : r.count = r.length + 4) :
    s.frameByte r b bad = s.judgeFrame (s.counted r bad) (r.checkHigh ++ b) := by
  rw [State.frameByte, if_neg (by omega), if_neg (by omega), if_neg (by omega), if_neg (by omega), if_neg (by omega)]
  rfl

end

/-! ### The judging of a whole frame (R165, R167) -/

/-- An entry that is not RECEIVING is READY (R168). -/
theorem Frame.isReady_eq (f : Frame) : f.isReady = decide (f.state ≠ .receiving) := by
  rw [Frame.isReady]
  cases f.state <;> rfl

/-- A report is placed or lost, and nothing but the Report Queue changes (R175). -/
theorem State.place_eq_ite (s : State) (r : Report) :
    s.place r = { s with reports := if s.reports.length < 32 then s.reports ++ [r] else s.reports } := by
  rw [State.place]
  split <;> rfl

/-- A reception error ends every frame alike but one that a part reset left behind. -/
theorem State.endInError_eq (s : State) {r : Reception} (heard : r.destination ≠ .silent) (reason : FrameErrorReason) :
    s.endInError r reason = s.endedInError r reason := by
  have ready : Frame.isReady = fun e => decide (e.state ≠ .receiving) := funext Frame.isReady_eq
  rw [State.endInError, State.endedInError, ready]
  cases d : r.destination with
  | silent => exact absurd d heard
  | entry => exact State.place_eq_ite ..
  | nothing => exact State.place_eq_ite ..

section
variable (s : State) {r : Reception} (check : Check)

theorem State.judgeFrame_silent (d : r.destination = .silent) : s.judgeFrame r check = s.hunt := by
  rw [State.judgeFrame, d]

/-- A frame without an entry is not looked at: it ends OVERRUN (R165, case 1). -/
theorem State.judgeFrame_nothing (d : r.destination = .nothing) :
    s.judgeFrame r check = s.endedInError r .overrun := by
  rw [State.judgeFrame, d]
  exact s.endInError_eq (by rw [d]; nofun) .overrun

/-- Cases 2 to 5 of R165, in their order. -/
theorem State.judgeFrame_entry {kind : Byte} (d : r.destination = .entry) (k : r.kind = some kind) :
    s.judgeFrame r check =
      if r.byteError = true then s.endedInError r .byte
      else if frameCheck kind r.length s.receivingBody ≠ check then s.endedInError r .check
      else if kind ∉ inboundKinds then s.endedInError r .unknownKind
      else (s.modReceiving fun e => { e with state := .ready }).hunt := by
  have heard : r.destination ≠ .silent := by rw [d]; nofun
  rw [State.judgeFrame, d, State.frameFault, k, Option.getD_some]
  by_cases marked : r.byteError = true
  · rw [if_pos marked, if_pos marked]
    exact s.endInError_eq heard .byte
  rw [if_neg marked, if_neg marked]
  by_cases differs : frameCheck kind r.length s.receivingBody ≠ check
  · rw [if_pos differs, if_pos differs]
    exact s.endInError_eq heard .check
  rw [if_neg differs, if_neg differs]
  by_cases unknown : kind ∉ inboundKinds
  · rw [if_pos unknown, if_pos unknown]
    exact s.endInError_eq heard .unknownKind
  · rw [if_neg unknown, if_neg unknown]

end

/-- Settles O13: a byte does what its position says, and the second check byte has the frame judged by its destination. -/
theorem completedFrameIsJudged : Obligations.CompletedFrameIsJudged := by
  intro s r next b parity stop bad taken inFrame bad_eq next_eq taken_eq
  obtain rfl : next = s.counted r bad := next_eq
  obtain rfl : taken = s.takenInto r.destination := funext fun q => funext fun f => taken_eq q f
  have byte : exec (.linkByteReceived b parity stop) s = .next (s.frameByte r b bad) := by
    rw [exec_linkByteReceived_inFrame inFrame, byteError_eq, bad_eq]
  rw [byte]
  refine ⟨fun first => ?kind, fun second => ?lengthHigh, fun third fits => ?lengthLow,
    fun after_length before_check => ?body, fun after_body => ?checkHigh, fun kind known last => ?judged⟩
  case kind => rw [s.frameByte_kind b bad first]
  case lengthHigh => rw [s.frameByte_lengthHigh b bad second, State.takenInto_id]
  case lengthLow => rw [s.frameByte_lengthLow b bad third fits, State.takenInto_id]
  case body => rw [s.frameByte_body b bad after_length before_check]
  case checkHigh => rw [s.frameByte_checkHigh b bad after_body, State.takenInto_id]
  case judged =>
    rw [s.frameByte_checkLow b bad last]
    cases d : r.destination with
    | silent => exact congrArg _ (s.judgeFrame_silent _ d)
    | nothing => exact congrArg _ (s.judgeFrame_nothing _ d)
    | entry =>
      have marked : (s.counted r bad).byteError = true ↔ r.byteError = true ∨ bad = true := Bool.or_eq_true_iff
      rw [State.judgeFrame_entry (r := s.counted r bad) s _ d known, apply_ite Host.Outcome.next,
        apply_ite Host.Outcome.next, apply_ite Host.Outcome.next]
      simp only [marked]
      rfl

end Sys2Proof.Machine
end

section
/-!
What a step can do, said once: an event of one channel alone, a turn of the Link Port or of the Table Store, and the
operations on the whole part. A property that each of them keeps is kept by every command (`Kept.exec`).
-/

namespace Sys2Proof.Machine

/-! ### Channel by channel -/

/-- Two changes of one channel, one after the other. -/
@[simp] theorem State.modChan_modChan (s : State) (ch : ChannelNo) (f g : Channel → Channel) :
    (s.modChan ch f).modChan ch g = s.setChan ch (g (f (s.chan ch))) := by
  simp [State.modChan]

theorem State.modChan_eq (s : State) (ch : ChannelNo) (f : Channel → Channel) :
    s.modChan ch f = s.setChan ch (f (s.chan ch)) := rfl

/-- A running Index Monitor has measured a leading edge (R92). -/
def Channel.measured (c : Channel) (t now : Nat) : Channel :=
  { c with monitor := c.monitor.leadingEdge c.active t now }

/-- The Index Monitor has found no edge for too long (R97). -/
def Channel.lapsed (c : Channel) (now : Nat) : Channel :=
  { c with monitor := c.monitor.timedOut now c.active.periodMax }

/-- The channel has handed its oldest report over (R80). -/
def Channel.handedOver (c : Channel) (rest : List Report) : Channel := { c with held := rest }

/-- The attempt record changes in what the verifier finds or in the last-check flag, and in nothing else (R105, R108 to
R111). -/
structure Attempt.Advances (a b : Attempt) : Prop where
  source     : b.source = a.source
  track      : b.track = a.track
  phase      : b.phase = a.phase
  writeBegan : b.writeBegan = a.writeBegan
  writeEnded : b.writeEnded = a.writeEnded
  lastCheck  : b.lastCheck = true → a.lastCheck = true ∨ a.phase = .write

/-- What an event makes of one channel, where nothing but that channel changes: its new record (chapters 4 to 6). -/
inductive ChannelMove (s : State) (ch : ChannelNo) : Channel → Prop
  | lines (trackZero writeProtect index : Bool) :
    ChannelMove s ch ((s.chan ch).modLines fun l =>
      { l with trackZero := trackZero, writeProtect := writeProtect, index := index })
  | mediaSeen (h : (s.chan ch).state ≠ .empty) :
    ChannelMove s ch ((s.chan ch).modLines fun l => { l with mediaPresent := true })
  | mediaStarts (h : (s.chan ch).state = .empty) :
    ChannelMove s ch (((s.chan ch).modLines fun l => { l with mediaPresent := true }).enterSpinup ch s.now)
  | mediaIgnored
    (h : (s.chan ch).state = .offline ∨ (s.chan ch).state = .empty ∨ (s.chan ch).state = .reporting ∨
      (s.chan ch).state = .rejecting) :
    ChannelMove s ch ((s.chan ch).modLines fun l => { l with mediaPresent := false })
  | mediaEmpties
    (h : (s.chan ch).state = .spinup ∨ (s.chan ch).state = .ready ∨ (s.chan ch).state = .stopped) :
    ChannelMove s ch (((s.chan ch).modLines fun l => { l with mediaPresent := false }).leaveFor .empty s.now)
  | mediaNoted (h : (s.chan ch).state = .sorting) (strobing : (s.chan ch).strobing = true) :
    ChannelMove s ch { (s.chan ch).modLines fun l => { l with mediaPresent := false } with removalNoted := true }
  | mediaRearms
    (h : (s.chan ch).state = .sorting ∧ (s.chan ch).strobing = false ∨ (s.chan ch).state = .unload ∨
      (s.chan ch).state = .jammed) :
    ChannelMove s ch (((s.chan ch).modLines fun l => { l with mediaPresent := false }).rearm ch s.now)
  | settings (r : Settings) (h : r.inRange = true) : ChannelMove s ch ((s.chan ch).placeSettings ch r s.now)
  | enable : ChannelMove s ch (((s.chan ch).setEnabled true).actEnable ch s.now)
  | disable (h : (s.chan ch).state.isCopy = false) :
    ChannelMove s ch (((s.chan ch).setEnabled false).actDisable s.now)
  | sortDropped (h : (s.chan ch).state = .reporting) :
    ChannelMove s ch ((s.chan ch).modCopy fun r => { r with sort := none })
  | reset (h : (s.chan ch).state.isCopy = false) : ChannelMove s ch ((s.chan ch).resetAfterCopy ch s.now)
  | flagsCleared : ChannelMove s ch (s.chan ch).flagsCleared
  | edgeStarts (t : Nat) (h : (s.chan ch).state = .spinup) (running : (s.chan ch).monitor.running = true)
    (reached : stableReached (s.chan ch).monitor ((s.chan ch).measured t s.now).monitor = true) :
    ChannelMove s ch (((s.chan ch).measured t s.now).stableInSpinup ch s.now)
  | edgeLoses (t : Nat) (h : (s.chan ch).state = .ready) (running : (s.chan ch).monitor.running = true)
    (lost : stableLost (s.chan ch).monitor ((s.chan ch).measured t s.now).monitor = true) :
    ChannelMove s ch (((s.chan ch).measured t s.now).readyLost ch s.now)
  | edgeMeasured (t : Nat) (h : (s.chan ch).state.isCopy = false) (running : (s.chan ch).monitor.running = true)
    (spinup : (s.chan ch).state = .spinup →
      stableReached (s.chan ch).monitor ((s.chan ch).measured t s.now).monitor = false)
    (ready : (s.chan ch).state = .ready →
      stableLost (s.chan ch).monitor ((s.chan ch).measured t s.now).monitor = false) :
    ChannelMove s ch ((s.chan ch).measured t s.now)
  | edgeRecovers (t : Nat) (h : (s.chan ch).state.isCopy = true) (running : (s.chan ch).monitor.running = true) :
    ChannelMove s ch (((s.chan ch).measured t s.now).recover (s.chan ch).monitor
      ((s.chan ch).measured t s.now).monitor s.now)
  | edgeTrails (t : Nat) (running : (s.chan ch).monitor.running = true) :
    ChannelMove s ch { s.chan ch with monitor := (s.chan ch).monitor.trailingEdge (s.chan ch).active t }
  | lapses (running : (s.chan ch).monitor.running = true)
    (h : ¬((s.chan ch).state = .ready ∧ (s.chan ch).monitor.stable = true)) :
    ChannelMove s ch ((s.chan ch).lapsed s.now)
  | lapseLoses (running : (s.chan ch).monitor.running = true) (h : (s.chan ch).state = .ready) :
    ChannelMove s ch (((s.chan ch).lapsed s.now).readyLost ch s.now)
  | attempt (a b : Attempt) (h : (s.chan ch).attempt = some a) (advances : a.Advances b) :
    ChannelMove s ch { s.chan ch with attempt := some b }
  | gateOn (a : Attempt) (h : (s.chan ch).state = .writing) (attempt : (s.chan ch).attempt = some a)
    (delay : a.phase = .delay) (began : Nat) (symbols : List Symbol) :
    ChannelMove s ch
      { s.chan ch with
        attempt := some { a with phase := .write, writeBegan := some began }
        lines := { (s.chan ch).lines with writeGate := true, writeData := symbols } }
  | writing (h : (s.chan ch).state = .waitingIndex) (source : Source) (gap edge : Nat)
    (found : s.attemptSource ((s.chan ch).cursor.getD 0) = some source) :
    ChannelMove s ch
      (({ s.chan ch with attempt := some (s.newAttempt source ((s.chan ch).cursor.getD 0) gap edge) } : Channel).modCopy
          (fun r => { r with leastGap := leastGapWith r.leastGap gap }) |>.enter .writing s.now)
  | verifying (a : Attempt) (h : (s.chan ch).state = .writing) (attempt : (s.chan ch).attempt = some a)
    (checked : a.lastCheck = true) (edge delay : Nat) :
    ChannelMove s ch
      (({ (s.chan ch).modLines fun l => { l with writeGate := false, writeData := [] } with
        attempt := some (a.reading edge s.now delay) } : Channel).enter .verifying s.now)
  | attemptLost (detail : Option VerifyDetail)
    (h : (s.chan ch).state = .waitingIndex ∨ (s.chan ch).state = .writing ∨ (s.chan ch).state = .verifying)
    (retry : (s.chan ch).attempts + 1 ≤ s.job.retryLimit) :
    ChannelMove s ch ((s.chan ch).attemptLost detail s.now)
  | recalibrates (h : (s.chan ch).state = .recalibrating) (steps : Nat) :
    ChannelMove s ch { (s.chan ch).pulse s.now with recalSteps := steps }
  | recalibrated (h : (s.chan ch).state = .recalibrating) (target head : Nat) :
    ChannelMove s ch (({ s.chan ch with cylinder := some 0 } : Channel).enterSeeking target head s.now)
  | seeks (h : (s.chan ch).state = .seeking) (timer : (s.chan ch).stepTimer.isSome = true) (target head : Nat) :
    ChannelMove s ch ((s.chan ch).seekOn target head s.now)
  | spinFault (h : (s.chan ch).state = .spinup) : ChannelMove s ch ((s.chan ch).enterRejecting ch .spinFault s.now)
  | idles (h : (s.chan ch).state = .ready) :
    ChannelMove s ch (((s.chan ch).leaveFor .stopped s.now).holdOnce (.channelEvent ch .spindleStopped))
  | strobes (h : (s.chan ch).state = .sorting) : ChannelMove s ch ((s.chan ch).startStrobe s.now)
  | strobeEnds (h : (s.chan ch).state = .sorting) (strobing : (s.chan ch).strobing = true) :
    ChannelMove s ch ((s.chan ch).endStrobe ch s.now)
  | jams (h : (s.chan ch).state = .unload) :
    ChannelMove s ch
      (({ (s.chan ch).enter .jammed s.now with ejectTimer := none } : Channel).holdOnce (.channelEvent ch .jammed))
  | eventPlaced (r : Report) (rest : List Report) (held : (s.chan ch).held = r :: rest)
    (untold : r.tailState = none ∨ r.tailState ≠ some (s.chan ch).state) : ChannelMove s ch ((s.chan ch).handedOver rest)
  | rejectPlaced (r : Report) (rest : List Report) (held : (s.chan ch).held = r :: rest)
    (tail : r.tailState = some .rejecting) (h : (s.chan ch).state = .rejecting) :
    ChannelMove s ch (((s.chan ch).handedOver rest).afterEvent ch s.now)

/-- What happens to a channel in the event that fails its copy, before the copy ends (R75, R79, R87). -/
inductive Failing (now : Nat) (c : Channel) : Channel → Prop
  | asItIs : Failing now c c
  | disabled : Failing now c (c.setEnabled false)
  | mediaGone : Failing now c (c.modLines fun l => { l with mediaPresent := false })
  | attempt (h : c.state = .waitingIndex ∨ c.state = .writing ∨ c.state = .verifying) (detail : Option VerifyDetail) :
    Failing now c (c.attemptLost detail now)

/-! ### The Link Port and the tables -/

/-- A turn of the Link Port or the Report Queue, which changes nothing else (chapters 9 and 10). -/
inductive LinkTurn (s : State) : State → Prop
  | byte (b : Byte) (bad : Bool) : LinkTurn s (s.linkByte b bad)
  | truncated (r : Reception) (h : s.link.reception = some r) : LinkTurn s (s.endInError r .truncated)
  | returnHold (level : Bool) : LinkTurn s (s.modLink fun l => { l with returnHold := level })
  | transmit (r : Report) (rest : List Report) (idle : s.link.transmit = .idle) (h : s.reports = r :: rest) :
    LinkTurn s (s.modLink fun l => { l with transmit := .sending, linkOut := r.frame })
  | sent (h : s.link.transmit = .sending) :
    LinkTurn s { s with reports := s.reports.tail, link := { s.link with transmit := .idle, linkOut := [] } }
  | stale : LinkTurn s (s.modLink fun l => { l with staleSegments := countUp l.staleSegments })
  | counted : LinkTurn s (s.modLink fun l => { l with receptionErrors := 0, staleSegments := 0 })
  | place (r : Report) : LinkTurn s (s.place r)
  | dropHead : LinkTurn s s.dropHead

/-- A change of a layout, patch or precompensation entry (R150, R152 to R154, R156). -/
inductive TablesTurn (s : State) : Tables → Prop
  | layout (i : Fin 8) (e : Option Layout) (valid : ∀ l, e = some l → l.valid = true)
    (free : ¬(s.passOpen = true ∧ s.job.layoutIndex = i)) :
    TablesTurn s { s.tables with layouts := s.tables.layouts.set i e }
  | patch (i : Fin 32) (e : Option Patch) (valid : ∀ p, e = some p → p.valid = true) (closed : s.passOpen = false) :
    TablesTurn s { s.tables with patches := s.tables.patches.set i e }
  | patchesCleared (closed : s.passOpen = false) : TablesTurn s { s.tables with patches := Vector.replicate 32 none }
  | precompD (p : Precomp) (valid : p.outer ≤ 15 ∧ p.inner ≤ 15) : TablesTurn s { s.tables with precompD := p }
  | precompH (p : Precomp) (valid : p.outer ≤ 15 ∧ p.inner ≤ 15) : TablesTurn s { s.tables with precompH := p }

/-! ### The whole part -/

/-- The settle of a channel ends (R71 to R73): it waits for its track, or for the index. -/
def State.settled (s : State) (ch : ChannelNo) : State :=
  (s.modChan ch fun c =>
    ({ c with settleTimer := none, activePrecomp := c.precompValue s.precomp, attempts := 0 } : Channel).enter
      (if s.trackIsReady (c.cursor.getD 0) then .waitingIndex else .waitingTrack) s.now).syncStarvation

/-- The COPY-RESULT of a channel in REPORTING has been handed over (R51, R81). -/
def State.resultPlaced (s : State) (ch : ChannelNo) (rest : List Report) : State :=
  (s.leaveEnrolled ch).setChan ch
    (({ (s.chan ch).handedOver rest with copy := none } : Channel).afterResult ch ((s.chan ch).copy.bind (·.sort)) s.now)

/-- The property is kept by each operation that the commands are made of. -/
structure Kept (P : State → Prop) : Prop where
  clock    : ∀ {s : State} (n : Nat), P s → s.now ≤ n → P { s with now := n }
  link     : ∀ {s t : State}, P s → LinkTurn s t → P t
  tables   : ∀ {s : State} {t : Tables}, P s → TablesTurn s t → P (s.withTables t)
  append   : ∀ {s : State} (v : Serial), P s → 1 ≤ v.length ∧ v.length ≤ 16 →
    s.pool.length + s.boundCount < Config.poolSize → P { s with pool := s.pool ++ [v] }
  clear    : ∀ {s : State}, P s → P { s with pool := [] }
  move     : ∀ {s : State} {ch : ChannelNo} {c : Channel}, P s → ChannelMove s ch c → P (s.setChan ch c)
  fails    : ∀ {s : State} {ch : ChannelNo} {c : Channel} (reason : CopyReason) (sort : Option Strobe), P s →
    (s.chan ch).state.isCopy = true → Failing s.now (s.chan ch) c →
    P ((s.setChan ch c).endCopy ch (.failed reason sort))
  finishes : ∀ {s : State} {ch : ChannelNo} {a : Attempt}, P s →
    (s.chan ch).state = .writing ∨ (s.chan ch).state = .verifying → (s.chan ch).attempt = some a →
    P (s.finishTrack ch a)
  settles  : ∀ {s : State} {ch : ChannelNo}, P s → (s.chan ch).state = .seeking →
    (s.chan ch).settleTimer.isSome = true → P (s.settled ch)
  placed   : ∀ {s : State} {ch : ChannelNo} {r : CopyResult} {rest : List Report}, P s → (s.chan ch).state = .reporting →
    (s.chan ch).held = .copyResult r :: rest → P (s.resultPlaced ch rest)
  job      : ∀ {s : State} {body : List Byte} {j : Job}, P s → s.passBusy = false → readJob s.tables body = .ok j →
    P (s.setJob j)
  begins   : ∀ {s : State} {tag : Byte} (trackZero : ChannelSet), P s → s.passBeginRefusal tag = none →
    P (s.beginPass tag trackZero)
  aborts   : ∀ {s : State} (reason : CopyReason) (close : CloseReason), P s →
    s.passOpen = true ∨ s.control.starvation.isSome = true → P (s.abortPass reason close)
  closes   : ∀ {s : State}, P s → s.control.pass.enrolled = 0 → P (s.modPass fun p => { p with closure := none })
  written  : ∀ {s : State} {body : List Byte} {i : Fin 8}, P s → s.segmentFate body = .written i →
    P (s.acceptSegment i body)
  allotted : ∀ {s : State} {body : List Byte} {i : Fin 8}, P s → s.segmentFate body = .allocated i →
    P ((s.allocate i (num1 body 1)).acceptSegment i body)
  partReset : ∀ {s : State}, P s → P s.partReset
  powerOn  : ∀ {s t : State} (a b : Bool), P s → exec (.powerOnReset a b) s = .next t → P t

end Sys2Proof.Machine
end

section
/-!
Every command comes to the operations of `Kept`: what they keep, every command keeps, and so does every step.
-/

namespace Sys2Proof.Machine

/-! ### What a reading of a record gives (R149, R152, R153, R156 to R158) -/

theorem readLayoutRecord_valid {rec : List Byte} {e : Option Layout} (h : readLayoutRecord rec = some e) :
    ∀ l, e = some l → l.valid = true := by
  rintro l rfl
  unfold readLayoutRecord at h
  split at h
  · cases h
  · split at h
    · obtain ⟨k, hk, ⟨⟩⟩ := Option.map_eq_some_iff.mp h
      unfold readLayout at hk
      split at hk
      · dsimp only at hk
        split at hk
        next valid => cases hk; exact valid
        next => cases hk
      · cases hk
    · cases h

theorem readPatchRecord_valid {rec : List Byte} {e : Option Patch} (length : 26 ≤ rec.length)
    (h : readPatchRecord rec = some e) : ∀ p, e = some p → p.valid = true := by
  rintro p rfl
  unfold readPatchRecord at h
  split at h
  · cases h
  · split at h
    · obtain ⟨k, hk, ⟨⟩⟩ := Option.map_eq_some_iff.mp h
      unfold readPatch at hk
      split at hk
      · dsimp only at hk
        split at hk
        next valid =>
          cases hk
          have whole : ((rec.drop 10).take 16).length = 16 := by
            rw [List.length_take, List.length_drop]; omega
          rw [Patch.valid, valid, whole]
          rfl
        next => cases hk
      · cases hk
    · cases h

theorem readPrecomp_valid {rec : List Byte} {p : Precomp} (h : readPrecomp rec = some p) :
    p.outer ≤ 15 ∧ p.inner ≤ 15 := by
  unfold readPrecomp at h
  split at h
  next valid => cases h; exact valid
  next => cases h

theorem num1_lt (bs : List Byte) (i : Nat) : num1 bs i < 256 := (byteAt bs i).isLt

theorem num2_lt (bs : List Byte) (i : Nat) : num2 bs i < 65536 := by
  have := num1_lt bs i
  have := num1_lt bs (i + 1)
  unfold num2
  omega

/-- The clamps of R158 bring a valid record whose fields came in their bytes into the ranges of R62. -/
theorem Settings.clamped_inRange {r : Settings} (valid : r.valid = true) (delay : r.sortDelay ≤ 255)
    (pulse : r.pulseMax ≤ 65535) : r.clamped.inRange = true := by
  have idle : r.clamped.idleTimeout = 0 ∨ 10 ≤ r.clamped.idleTimeout ∧ r.clamped.idleTimeout ≤ 240 := by
    simp only [Settings.clamped, clamp]
    split <;> omega
  have step : 2 ≤ r.clamped.stepRate ∧ r.clamped.stepRate ≤ 16 := by simp only [Settings.clamped, clamp]; omega
  have settle : r.clamped.settle ≤ 50 := by simp only [Settings.clamped]; omega
  have width : 10 ≤ r.clamped.sortWidth ∧ r.clamped.sortWidth ≤ 500 := by simp only [Settings.clamped, clamp]; omega
  have eject : 2 ≤ r.clamped.ejectTimeout ∧ r.clamped.ejectTimeout ≤ 60 := by
    simp only [Settings.clamped, clamp]; omega
  have limits : r.clamped.valid = true := valid
  simp only [Settings.inRange, limits, Bool.true_and, Bool.and_eq_true]
  exact ⟨⟨⟨⟨⟨⟨decide_eq_true step, decide_eq_true settle⟩, decide_eq_true idle⟩, decide_eq_true delay⟩,
    decide_eq_true width⟩, decide_eq_true eject⟩, decide_eq_true pulse⟩

theorem readSettings_inRange {rec : List Byte} {r : Settings} (h : readSettings rec = some r) : r.inRange = true := by
  unfold readSettings at h
  split at h
  · dsimp only at h
    split at h
    next valid =>
      cases h
      exact Settings.clamped_inRange valid (Nat.le_of_lt_succ (num1_lt _ _)) (Nat.le_of_lt_succ (num2_lt _ _))
    next => cases h
  · cases h

/-! ### Compound operations -/

/-- WRITE GATE off before an attempt fails says nothing new: the failed attempt drops it. -/
theorem State.attemptFailed_gateOff (s : State) (ch : ChannelNo) (kind : FailKind) (detail : Option VerifyDetail) :
    (s.modChan ch fun c => c.modLines fun l => { l with writeGate := false, writeData := [] }).attemptFailed ch kind
        detail = s.attemptFailed ch kind detail := by
  simp only [State.attemptFailed, State.modChan_modChan]
  rfl

theorem State.finishTrack_gateOff (s : State) (ch : ChannelNo) (a : Attempt) :
    (s.modChan ch fun c => c.modLines fun l => { l with writeGate := false, writeData := [] }).finishTrack ch a =
      s.finishTrack ch a := by
  simp only [State.finishTrack, State.modChan_modChan]
  rfl

/-- The records of a load keep what each of them keeps (R147). -/
theorem runRecords_keeps {Q : State → Prop} {step : Nat → List Byte → State → RecordResult}
    (each : ∀ j bs s t rest, Q s → step j bs s = .applied t rest → Q t) (n j : Nat) (bs : List Byte)
    {s : State} (h : Q s) : Q (runRecords step n j bs s).1 := by
  induction n generalizing j bs s with
  | zero => exact h
  | succ n ih =>
    unfold runRecords
    cases applied : step j bs s with
    | stop r => exact h
    | applied t rest => exact ih _ _ (each _ _ _ _ _ h applied)

namespace Kept

variable {P : State → Prop} (k : Kept P)
include k

theorem place {s : State} (h : P s) (r : Report) : P (s.place r) := k.link h (.place r)

theorem dropHead {s : State} (h : P s) : P s.dropHead := k.link h .dropHead

theorem reach {s : State} (h : P s) (t : Nat) : P (s.reach t) := k.clock _ h (Nat.le_max_left _ _)

/-- A frame command keeps what its meaning keeps (R170). -/
theorem takeFrame {s : State} (h : P s) {kind : Byte} {mine : List Byte → Bool} {act : List Byte → State → State}
    (acts : ∀ body, P (act body s)) : P (s.takeFrame kind mine act) := by
  unfold State.takeFrame
  split
  · exact h
  · split
    · split
      · split
        · exact k.dropHead (acts _)
        · exact h
      · exact k.dropHead (k.place h _)
    · exact h

/-- A load keeps what each of its records keeps (R147). -/
theorem loadRecords {s : State} {base : Nat} {step : Nat → List Byte → State → RecordResult} {body : List Byte}
    {Q : State → Prop} (h : Q s) (each : ∀ j bs s t rest, Q s → step j bs s = .applied t rest → Q t)
    (kept : ∀ s, Q s → P s) : P (s.loadRecords base step body) := by
  have run := kept _ (runRecords_keeps each (num1 body 3) 0 (body.drop 4) h)
  unfold State.loadRecords
  generalize runRecords step (num1 body 3) 0 (body.drop 4) s = result at run ⊢
  obtain ⟨t, _ | ⟨j, r⟩⟩ := result
  · exact run
  · exact k.place run _

/-- A failed attempt leaves another try, or ends the copy (R75). -/
theorem attemptFailed {s : State} (h : P s) {ch : ChannelNo}
    (st : (s.chan ch).state = .waitingIndex ∨ (s.chan ch).state = .writing ∨ (s.chan ch).state = .verifying)
    (kind : FailKind) (detail : Option VerifyDetail) : P (s.attemptFailed ch kind detail) := by
  have count : ((s.modChan ch fun c => c.attemptLost detail s.now).chan ch).attempts = (s.chan ch).attempts + 1 := by
    rw [State.chan_modChan_self]; rfl
  unfold State.attemptFailed
  simp only [count]
  split
  · exact k.fails _ _ h (by rcases st with st | st | st <;> rw [st] <;> rfl) (.attempt st detail)
  · exact k.move h (.attemptLost detail st (by omega))

theorem writeStart {s : State} (h : P s) {ch : ChannelNo} {a : Attempt} (st : (s.chan ch).state = .writing)
    (attempt : (s.chan ch).attempt = some a) (delay : a.phase = .delay) : P (s.writeStart ch a) := by
  unfold State.writeStart
  split
  · exact k.attemptFailed h (.inr (.inl st)) _ _
  · exact k.move h (.gateOn a st attempt delay _ _)

theorem beginAttempt {s : State} (h : P s) {ch : ChannelNo} (st : (s.chan ch).state = .waitingIndex) (t : Nat) :
    P (s.beginAttempt ch t) := by
  unfold State.beginAttempt
  dsimp only
  split
  · exact h
  next source found =>
    split
    · exact k.attemptFailed h (.inl st) _ _
    next g _ =>
      have began := k.move h (.writing st source g t found)
      unfold State.beginWrite
      dsimp only
      split
      · exact k.writeStart (a := s.newAttempt source _ g t) began (by rw [State.chan_setChan_self]; rfl)
          (by rw [State.chan_setChan_self]; rfl) rfl
      · exact began

theorem endWrite {s : State} (h : P s) {ch : ChannelNo} {a : Attempt} (st : (s.chan ch).state = .writing)
    (attempt : (s.chan ch).attempt = some a) (stable : Bool) (t : Nat) : P (s.endWrite ch a stable t) := by
  unfold State.endWrite
  simp only [State.attemptFailed_gateOff, State.finishTrack_gateOff]
  split
  · exact k.attemptFailed h (.inr (.inl st)) _ _
  split
  · exact k.attemptFailed h (.inr (.inl st)) _ _
  next checked =>
  split
  · exact k.finishes h (.inl st) attempt
  · rw [State.modChan_modChan]
    exact k.move h (.verifying a st attempt (by simpa using checked) _ _)

theorem endVerify {s : State} (h : P s) {ch : ChannelNo} {a : Attempt} (st : (s.chan ch).state = .verifying)
    (attempt : (s.chan ch).attempt = some a) (stable : Bool) : P (s.endVerify ch a stable) := by
  unfold State.endVerify
  split
  · exact k.attemptFailed h (.inr (.inr st)) _ _
  · split
    · exact k.finishes h (.inr st) attempt
    · exact k.attemptFailed h (.inr (.inr st)) _ _

/-- A measured edge is handed to the channel, which acts by its state (R92, R95). -/
theorem edgeToChannel {s : State} (h : P s) {ch : ChannelNo} (running : (s.chan ch).monitor.running = true) (t : Nat) :
    P ((s.modChan ch fun c => { c with monitor := c.monitor.leadingEdge c.active t s.now }).edgeToChannel ch
      (s.chan ch).monitor t) := by
  have measured : (s.modChan ch fun c => { c with monitor := c.monitor.leadingEdge c.active t s.now }) =
      s.setChan ch ((s.chan ch).measured t s.now) := rfl
  rw [measured]
  unfold State.edgeToChannel
  simp only [State.chan_setChan_self, State.setChan_now, State.modChan_eq, State.setChan_setChan]
  have plain (spinup ready copy) := k.move h (.edgeMeasured (ch := ch) t copy running spinup ready)
  have recovered (copy) := k.move h (.edgeRecovers (ch := ch) t copy running)
  have kept : ∀ x y, ((((s.chan ch).measured t s.now).recover x y s.now).state = (s.chan ch).state) ∧
      (((s.chan ch).measured t s.now).recover x y s.now).attempt = (s.chan ch).attempt := by
    intro x y
    unfold Channel.recover
    split
    · exact ⟨rfl, rfl⟩
    · split <;> exact ⟨rfl, rfl⟩
  have state : ((s.chan ch).measured t s.now).state = (s.chan ch).state := rfl
  have attempt : ((s.chan ch).measured t s.now).attempt = (s.chan ch).attempt := rfl
  split
  case h_1 st =>
    rw [state] at st
    split
    next reached => exact k.move h (.edgeStarts t st running reached)
    next reached =>
      exact plain (fun _ => by simpa using reached) (fun r => by rw [st] at r; cases r) (by rw [st]; rfl)
  case h_2 st =>
    rw [state] at st
    split
    next lost => exact k.move h (.edgeLoses t st running lost)
    next lost => exact plain (fun r => by rw [st] at r; cases r) (fun _ => by simpa using lost) (by rw [st]; rfl)
  case h_3 st | h_4 st | h_5 st => exact recovered (by rw [← state, st]; rfl)
  case h_6 st =>
    have waits := recovered (by rw [← state, st]; rfl)
    split
    · exact k.beginAttempt waits (by rw [State.chan_setChan_self, (kept _ _).1, ← state, st]) t
    · exact waits
  case h_7 st =>
    have writes := recovered (by rw [← state, st]; rfl)
    split
    next a held =>
      exact k.endWrite writes (by rw [State.chan_setChan_self, (kept _ _).1, ← state, st])
        (by rw [State.chan_setChan_self, (kept _ _).2, ← attempt, held]) _ _
    next => exact writes
  case h_8 st =>
    have verifies := recovered (by rw [← state, st]; rfl)
    split
    next a held =>
      exact k.endVerify verifies (by rw [State.chan_setChan_self, (kept _ _).1, ← state, st])
        (by rw [State.chan_setChan_self, (kept _ _).2, ← attempt, held]) _
    next => exact verifies
  all_goals
    next st =>
    rw [state] at st
    exact plain (fun r => by rw [st] at r; cases r) (fun r => by rw [st] at r; cases r) (by rw [st]; rfl)

/-! ### The frame commands -/

theorem layoutStep {start j : Nat} {bs rest : List Byte} {s t : State} (h : P s)
    (applied : Machine.layoutStep start j bs s = .applied t rest) : P t := by
  unfold Machine.layoutStep at applied
  split at applied
  next inside =>
    split at applied
    · cases applied
    next free =>
      split at applied
      · cases applied
      · split at applied
        · cases applied
        next entry read =>
          cases applied
          exact k.tables h (.layout ⟨start + j, inside⟩ entry (readLayoutRecord_valid read)
            fun ⟨opened, used⟩ => free ⟨opened, by rw [used]⟩)
  next => cases applied

theorem patchStep {start j : Nat} {bs rest : List Byte} {s t : State} (h : P s) (closed : s.passOpen = false)
    (applied : Machine.patchStep start j bs s = .applied t rest) : P t ∧ t.passOpen = false := by
  unfold Machine.patchStep at applied
  split at applied
  next inside =>
    split at applied
    · cases applied
    next whole =>
      split at applied
      · cases applied
      next entry read =>
        cases applied
        refine ⟨k.tables h (.patch ⟨start + j, inside⟩ entry (readPatchRecord_valid ?_ read) closed), closed⟩
        rw [List.length_take]
        omega
  next => cases applied

theorem precompStep {start j : Nat} {bs rest : List Byte} {s t : State} (h : P s)
    (applied : Machine.precompStep start j bs s = .applied t rest) : P t := by
  unfold Machine.precompStep at applied
  split at applied
  · split at applied
    · cases applied
    · split at applied
      · cases applied
      next p read =>
        cases applied
        split
        · exact k.tables h (.precompD p (readPrecomp_valid read))
        · exact k.tables h (.precompH p (readPrecomp_valid read))
  · cases applied

theorem channelStep {start j : Nat} {bs rest : List Byte} {s t : State} (h : P s)
    (applied : Machine.channelStep start j bs s = .applied t rest) : P t := by
  unfold Machine.channelStep at applied
  split at applied
  · split at applied
    · cases applied
    · split at applied
      · cases applied
      next r read =>
        cases applied
        exact k.move h (.settings r (readSettings_inRange read))
  · cases applied

theorem poolStep {j : Nat} {bs rest : List Byte} {s t : State} (h : P s)
    (applied : Machine.poolStep j bs s = .applied t rest) : P t := by
  unfold Machine.poolStep at applied
  split at applied
  · cases applied
  next len value =>
    split at applied
    · cases applied
    next length =>
      split at applied
      · cases applied
      next whole =>
        split at applied
        · cases applied
        next room =>
          cases applied
          refine k.append _ h ?_ (Nat.not_le.mp room)
          rw [List.length_take]
          omega

theorem applyFate {s : State} (h : P s) (body : List Byte) : P (s.applyFate body (s.segmentFate body)) := by
  cases fate : s.segmentFate body with
  | stale => exact k.dropHead (k.link h .stale)
  | refused r => exact k.dropHead (k.place h _)
  | discarded => exact k.dropHead h
  | waits => exact h
  | written i => exact k.dropHead (k.written h fate)
  | allocated i => exact k.dropHead (k.allotted h fate)

theorem statusQuery {s : State} (h : P s) (body : List Byte) : P (s.statusQuery body) := by
  unfold State.statusQuery
  split
  · exact k.place h _
  · have each : ∀ (chs : List ChannelNo) (t : State), P t → P (chs.foldl State.reportChannel t) := by
      intro chs
      induction chs with
      | nil => exact fun _ ht => ht
      | cons ch chs ih => exact fun t ht => ih _ (k.move (k.place ht _) .flagsCleared)
    refine each _ _ ?_
    split
    · exact h
    · exact k.link (k.place h _) .counted

theorem jobSet {s : State} (h : P s) (body : List Byte) : P (s.jobSet body) := by
  unfold State.jobSet
  split
  · exact k.place h _
  next busy =>
    split
    · exact k.place h _
    next j read => exact k.job h (by simpa using busy) read

theorem passBegin {s : State} (h : P s) (trackZero : ChannelSet) (body : List Byte) :
    P (s.passBegin trackZero body) := by
  unfold State.passBegin
  split
  · exact k.place h _
  next allowed => exact k.begins trackZero h allowed

theorem passAbort {s : State} (h : P s) (body : List Byte) : P (s.passAbort body) := by
  unfold State.passAbort
  split
  · exact k.place h _
  next opened =>
    split
    · exact k.place h _
    · exact k.aborts _ _ h (.inl (by simpa using opened))

theorem disable {s : State} (h : P s) (ch : ChannelNo) : P (s.disable ch) := by
  unfold State.disable
  dsimp only
  split
  next copy => exact k.fails _ _ h copy .disabled
  next copy =>
    rw [State.modChan_modChan]
    exact k.move h (.disable (by simpa using copy))

theorem channelReset {s : State} (h : P s) (ch : ChannelNo) : P (s.channelReset ch) := by
  have copyReset : P (s.resetCopy ch) ∧ ((s.resetCopy ch).chan ch).state.isCopy = false ∧
      (s.resetCopy ch).now = s.now := by
    unfold State.resetCopy
    split
    next copy =>
      have ended := k.fails (ch := ch) .channelReset none h copy .asItIs
      rw [State.setChan_chan] at ended
      exact ⟨ended, by rw [State.endCopy_chan_self]; rfl, State.endCopy_now _ _ _⟩
    next copy =>
      split
      next reporting =>
        refine ⟨k.move h (.sortDropped reporting), ?_, rfl⟩
        rw [State.chan_modChan_self, Channel.modCopy_state, reporting]
        rfl
      next => exact ⟨h, by simpa using copy, rfl⟩
  obtain ⟨kept, off, now⟩ := copyReset
  unfold State.channelReset
  rw [← now]
  exact k.move kept (.reset off)

/-! ### The events of the channels -/

theorem mediaAbsent {s t : State} (h : P s) {ch : ChannelNo} (e : execMediaAbsent ch s = .next t) : P t := by
  unfold execMediaAbsent at e
  cases e
  have gone : s.seeMedia ch false = s.setChan ch ((s.chan ch).modLines fun l => { l with mediaPresent := false }) := rfl
  simp only [gone, State.modChan_eq, State.setChan_setChan, State.chan_setChan_self]
  split
  case h_1 st => exact k.move h (.mediaIgnored (.inl st))
  case h_2 st => exact k.move h (.mediaIgnored (.inr (.inl st)))
  case h_3 st => exact k.move h (.mediaIgnored (.inr (.inr (.inl st))))
  case h_4 st => exact k.move h (.mediaIgnored (.inr (.inr (.inr st))))
  case h_5 st => exact k.move h (.mediaEmpties (.inl st))
  case h_6 st => exact k.move h (.mediaEmpties (.inr (.inl st)))
  case h_7 st => exact k.move h (.mediaEmpties (.inr (.inr st)))
  case h_14 st =>
    split
    next strobing => exact k.move h (.mediaNoted st strobing)
    next strobing => exact k.move h (.mediaRearms (.inl ⟨st, by simpa using strobing⟩))
  case h_15 st => exact k.move h (.mediaRearms (.inr (.inl st)))
  case h_16 st => exact k.move h (.mediaRearms (.inr (.inr st)))
  all_goals next st => exact k.fails _ _ h (by rw [st]; rfl) .mediaGone

/-- A level of an input line that a channel sees. -/
theorem seeProtect {s : State} (h : P s) (ch : ChannelNo) (level : Bool) : P (s.seeProtect ch level) :=
  k.move h (.lines (s.chan ch).lines.trackZero level (s.chan ch).lines.index)

/-- The oldest held report of a channel has been placed, and the channel moves on (R80 to R82). -/
theorem afterPlaced {s : State} (h : P s) {ch : ChannelNo} {r : Report} {rest : List Report}
    (held : (s.chan ch).held = r :: rest) :
    P ((s.modChan ch fun c => { c with held := rest }).afterPlaced ch r) := by
  have handed : (s.modChan ch fun c => { c with held := rest }) = s.setChan ch ((s.chan ch).handedOver rest) := rfl
  rw [handed]
  have untold (other) : P (s.setChan ch ((s.chan ch).handedOver rest)) := k.move h (.eventPlaced r rest held other)
  unfold State.afterPlaced
  simp only [State.chan_setChan_self]
  have state : ((s.chan ch).handedOver rest).state = (s.chan ch).state := rfl
  split
  next q st =>
    rw [state] at st
    have placed := k.placed h st held
    unfold State.resultPlaced at placed
    have leaves : (s.setChan ch ((s.chan ch).handedOver rest)).leaveEnrolled ch =
        (s.leaveEnrolled ch).setChan ch ((s.chan ch).handedOver rest) := rfl
    rw [leaves, State.modChan_eq, State.setChan_setChan, State.chan_setChan_self]
    exact placed
  next st =>
    rw [State.modChan_eq, State.setChan_setChan, State.chan_setChan_self]
    exact k.move h (.rejectPlaced _ rest held rfl st)
  next st =>
    rw [State.modChan_eq, State.setChan_setChan, State.chan_setChan_self]
    exact k.move h (.rejectPlaced _ rest held rfl st)
  next r _ _ notCopy notProtect notFault =>
    refine untold ?_
    cases r with
    | copyResult q => exact .inr fun e => notCopy q rfl (Option.some.inj e).symm
    | channelEvent _ ev =>
      cases ev with
      | writeProtected => exact .inr fun e => notProtect _ rfl (Option.some.inj e).symm
      | spinFault => exact .inr fun e => notFault _ rfl (Option.some.inj e).symm
      | jammed => exact .inl rfl
      | spindleStopped => exact .inl rfl
    | _ => exact .inl rfl

/-! ### The timers -/

/-- The timers of a channel without a copy, and the step intervals, move their channel alone. -/
theorem recalStepInterval {s t : State} (h : P s) {ch : ChannelNo} {zero : Bool}
    (e : execRecalStepInterval ch zero s = .next t) : P t := by
  unfold execRecalStepInterval at e
  cases e
  dsimp only
  split
  next due =>
    have reached := k.reach h ((s.chan ch).stepTimer.getD 0)
    have seen := k.move (ch := ch) reached
      (.lines zero (s.chan ch).lines.writeProtect (s.chan ch).lines.index)
    have state : (((s.reachTimer (s.chan ch).stepTimer).modChan ch fun c => c.modLines fun l =>
        { l with trackZero := zero }).chan ch).state = .recalibrating := by
      rw [State.chan_modChan_self]; exact due.1
    split
    · exact k.move seen (.recalibrated state _ _)
    · split
      · have ended := k.fails (ch := ch) .recalFailed (some .reject) seen
          (by rw [State.chan_setChan_self]; exact congrArg ChState.isCopy due.1) .asItIs
        rwa [State.setChan_chan] at ended
      · exact k.move seen (.recalibrates state _)
  next => exact h

theorem seekStepInterval {s t : State} (h : P s) {ch : ChannelNo} (e : execSeekStepInterval ch s = .next t) : P t := by
  unfold execSeekStepInterval at e
  cases e
  dsimp only
  split
  next due =>
    exact k.move (ch := ch) (k.reach h ((s.chan ch).stepTimer.getD 0))
      (.seeks (s := s.reachTimer (s.chan ch).stepTimer) due.1 due.2 _ _)
  next => exact h

theorem settleEnd {s t : State} (h : P s) {ch : ChannelNo} (e : execSettleEnd ch s = .next t) : P t := by
  unfold execSettleEnd at e
  cases e
  dsimp only
  split
  next due => exact k.settles (ch := ch) (k.reach h ((s.chan ch).settleTimer.getD 0)) due.1 due.2
  next => exact h

theorem recoveryTimeout {s t : State} (h : P s) {ch : ChannelNo} (e : execRecoveryTimeout ch s = .next t) : P t := by
  unfold execRecoveryTimeout at e
  cases e
  dsimp only
  split
  next due =>
    have ended := k.fails (ch := ch) .speedFault (some .reject) (k.reach h ((s.chan ch).recoveryTimer.getD 0)) due.1
      .asItIs
    rwa [State.setChan_chan] at ended
  next => exact h

theorem indexTimeout {s t : State} (h : P s) {ch : ChannelNo} (e : execIndexTimeout ch s = .next t) : P t := by
  unfold execIndexTimeout at e
  cases e
  dsimp only
  split
  next running =>
    have reached := k.reach h ((s.chan ch).monitor.indexTimer.getD 0)
    generalize u_eq : s.reachTimer (s.chan ch).monitor.indexTimer = u
    have kept : P u := u_eq ▸ reached
    have chan : s.chan ch = u.chan ch := by rw [← u_eq]; rfl
    rw [chan] at running ⊢
    have lapsed : (u.modChan ch fun c => { c with monitor := c.monitor.timedOut u.now c.active.periodMax }) =
        u.setChan ch ((u.chan ch).lapsed u.now) := rfl
    rw [lapsed]
    unfold State.timeoutToChannel
    simp only [State.chan_setChan_self, State.modChan_eq, State.setChan_setChan]
    have state : ((u.chan ch).lapsed u.now).state = (u.chan ch).state := rfl
    rw [state]
    split
    next copy =>
      have lapses := k.move kept (.lapses (ch := ch) running (fun r => by rw [r.1] at copy; cases copy))
      have ended := k.fails (ch := ch) .noIndex (some .reject) lapses (by rw [State.chan_setChan_self]; exact copy)
        .asItIs
      rwa [State.setChan_chan] at ended
    next =>
      split
      next lost => exact k.move kept (.lapseLoses running lost.1)
      next kept_stable => exact k.move kept (.lapses running kept_stable)
  next => exact h

theorem indexLeadingEdge {s u : State} (h : P s) {ch : ChannelNo} {t : Nat} {protect : Bool}
    (e : execIndexLeadingEdge ch t protect s = .next u) : P u := by
  unfold execIndexLeadingEdge at e
  cases e
  have seen := k.move (ch := ch) (k.reach h t) (.lines (s.chan ch).lines.trackZero protect true)
  dsimp only
  split
  next running =>
    have handed := k.edgeToChannel seen (ch := ch) (by rw [State.chan_setChan_self]; exact running) t
    rw [State.chan_setChan_self] at handed
    exact handed
  next => exact seen

theorem indexTrailingEdge {s u : State} (h : P s) {ch : ChannelNo} {t : Nat}
    (e : execIndexTrailingEdge ch t s = .next u) : P u := by
  unfold execIndexTrailingEdge at e
  cases e
  have seen := k.move (ch := ch) (k.reach h t) (.lines (s.chan ch).lines.trackZero (s.chan ch).lines.writeProtect false)
  rw [State.modChan_eq]
  cases running : (s.chan ch).monitor.running with
  | false =>
    have still : ((s.reach t).chan ch).monitor.running = false := running
    simp only [still]
    exact seen
  | true =>
    have runs : ((s.reach t).chan ch).monitor.running = true := running
    have trails := k.move seen (.edgeTrails (ch := ch) t (by rw [State.chan_setChan_self]; exact running))
    rw [State.setChan_setChan, State.chan_setChan_self] at trails
    simp only [runs]
    exact trails

/-! ### The verifier and the writer -/

omit k in
theorem withAttempt {s : State} (h : P s) {ch : ChannelNo} {st : ChState} {phase : Phase} {f : Attempt → State}
    (acts : ∀ a, (s.chan ch).attempt = some a → (s.chan ch).state = st → a.phase = phase → P (f a)) :
    P (s.withAttempt ch st phase f) := by
  unfold State.withAttempt
  split
  · exact h
  next a held =>
    split
    next fits => exact acts a held fits.1 fits.2
    next => exact h

theorem setAttempt {s : State} (h : P s) {ch : ChannelNo} {a b : Attempt} (held : (s.chan ch).attempt = some a)
    (advances : a.Advances b) : P (s.setAttempt ch b) := k.move h (.attempt a b held advances)

end Kept

theorem Attempt.loseField_advances (a : Attempt) : a.Advances a.loseField := by
  unfold Attempt.loseField
  cases a.search <;> exact ⟨rfl, rfl, rfl, rfl, rfl, .inl⟩

theorem Attempt.headerRead_advances (a : Attempt) (l : Layout) (header : List Byte) (check : Check) :
    a.Advances (a.headerRead l header check) := by
  obtain ⟨source, track, phase, began, ended, last⟩ := a.loseField_advances
  unfold Attempt.headerRead
  dsimp only
  split
  · exact ⟨source, track, phase, began, ended, last⟩
  · split <;> exact ⟨source, track, phase, began, ended, last⟩

theorem State.dataRead_advances (s : State) (ch : ChannelNo) (a : Attempt) (code : Byte) (bytes : List Byte) :
    a.Advances (s.dataRead ch a code bytes) := by
  have same : a.Advances a := ⟨rfl, rfl, rfl, rfl, rfl, .inl⟩
  unfold State.dataRead
  split
  · exact same
  · exact same
  · split
    · split <;> exact ⟨rfl, rfl, rfl, rfl, rfl, .inl⟩
    · exact same

/-! ### Every command -/

/-- What each operation keeps, every command keeps. -/
theorem Kept.exec {P : State → Prop} (k : Kept P) (c : Instr) {s t : State} (h : P s) (e : exec c s = .next t) :
    P t := by
  cases c with
  | trackSegment =>
    change execTrackSegment s = .next t at e
    unfold execTrackSegment at e
    cases e
    split
    · exact h
    · split
      · exact k.applyFate h _
      · exact h
  | layoutWrite =>
    cases e; exact k.takeFrame h fun _ => k.loadRecords h (fun _ _ _ _ _ h => k.layoutStep h) fun _ h => h
  | patchWrite =>
    cases e
    refine k.takeFrame h fun body => ?_
    split
    · exact k.place h _
    next closed =>
      exact k.loadRecords (Q := fun s => P s ∧ s.passOpen = false) ⟨h, by simpa using closed⟩
        (fun _ _ _ _ _ h => k.patchStep h.1 h.2) fun _ h => h.1
  | patchClear =>
    cases e
    refine k.takeFrame h fun body => ?_
    dsimp only
    split
    · exact k.place h _
    next closed => exact k.tables h (.patchesCleared (by simpa using closed))
  | poolAppend => cases e; exact k.takeFrame h fun _ => k.loadRecords h (fun _ _ _ _ _ h => k.poolStep h) fun _ h => h
  | poolClear => cases e; exact k.takeFrame h fun _ => k.clear h
  | precompWrite =>
    cases e; exact k.takeFrame h fun _ => k.loadRecords h (fun _ _ _ _ _ h => k.precompStep h) fun _ h => h
  | channelWrite =>
    cases e; exact k.takeFrame h fun _ => k.loadRecords h (fun _ _ _ _ _ h => k.channelStep h) fun _ h => h
  | tableLoadRefused => cases e; exact k.takeFrame h fun _ => k.place h _
  | jobSet => cases e; exact k.takeFrame h fun body => k.jobSet h body
  | passBegin zero => cases e; exact k.takeFrame h fun body => k.passBegin h zero body
  | passAbort => cases e; exact k.takeFrame h fun body => k.passAbort h body
  | channelEnable => cases e; exact k.takeFrame h fun _ => k.move h .enable
  | channelDisable => cases e; exact k.takeFrame h fun _ => k.disable h _
  | channelReset => cases e; exact k.takeFrame h fun _ => k.channelReset h _
  | channelControlRefused => cases e; exact k.takeFrame h fun _ => k.place h _
  | statusQuery => cases e; exact k.takeFrame h fun body => k.statusQuery h body
  | partReset =>
    change execPartReset s = .next t at e
    unfold execPartReset at e
    cases e
    split
    · exact k.partReset h
    · exact h
  | powerOnReset a b => exact k.powerOn a b h e
  | linkByteReceived b parity stop => cases e; exact k.link h (.byte b _)
  | frameGapTimeout =>
    change execFrameGapTimeout s = .next t at e
    unfold execFrameGapTimeout at e
    cases e
    split
    · exact h
    next r reception => exact k.link (k.reach h _) (.truncated r reception)
  | reportTransmitStart level =>
    change execReportTransmitStart level s = .next t at e
    unfold execReportTransmitStart at e
    cases e
    have held := k.link h (.returnHold level)
    dsimp only
    split
    next r rest idle reports =>
      split
      · exact held
      · exact k.link held (.transmit r rest idle reports)
    · exact held
  | reportSent =>
    change execReportSent s = .next t at e
    unfold execReportSent at e
    cases e
    split
    · exact h
    next sending => exact k.link h (.sent sending)
  | heldReportPlaced ch protect =>
    change execHeldReportPlaced ch protect s = .next t at e
    unfold execHeldReportPlaced at e
    cases e
    split
    · exact h
    next r rest held =>
      split
      · refine k.afterPlaced (k.place (k.seeProtect h ch protect) r) ?_
        rw [show ((s.seeProtect ch protect).place r).chan ch = (s.seeProtect ch protect).chan ch from by
          simp only [State.chan, State.place_channels], State.seeProtect, State.chan_modChan_self]
        exact held
      · exact h
  | passClosedPlaced =>
    change execPassClosedPlaced s = .next t at e
    unfold execPassClosedPlaced at e
    cases e
    split
    · exact h
    · split
      next c _ free => exact k.closes (k.place h _) (by rw [State.place_control]; exact free.1)
      next => exact h
  | mediaPresent ch =>
    change execMediaPresent ch s = .next t at e
    unfold execMediaPresent at e
    cases e
    dsimp only
    split
    next empty =>
      rw [State.seeMedia, State.modChan_modChan]
      exact k.move h (.mediaStarts empty)
    next other => exact k.move h (.mediaSeen other)
  | mediaAbsent ch => exact k.mediaAbsent h e
  | indexLeadingEdge ch t protect => exact k.indexLeadingEdge h e
  | indexTrailingEdge ch t => exact k.indexTrailingEdge h e
  | indexTimeout ch => exact k.indexTimeout h e
  | writeStart ch protect =>
    cases e
    refine Kept.withAttempt h fun a held writing delay => ?_
    refine k.writeStart (k.seeProtect (k.reach h _) ch protect) ?_ ?_ delay
    · rw [State.seeProtect, State.chan_modChan_self]; exact writing
    · rw [State.seeProtect, State.chan_modChan_self]; exact held
  | lastCheckWritten ch =>
    cases e
    refine Kept.withAttempt h fun a held _ write => ?_
    exact k.setAttempt (k.reach h _) held ⟨rfl, rfl, rfl, rfl, rfl, fun _ => .inr write⟩
  | writeProtectAsserted ch =>
    cases e
    have seen := k.seeProtect h ch true
    refine Kept.withAttempt seen fun a _ writing _ => ?_
    exact k.attemptFailed seen (.inr (.inl writing)) _ _
  | verifyDelayEnd ch =>
    cases e
    refine Kept.withAttempt h fun a held _ _ => ?_
    split
    · exact k.setAttempt (k.reach h _) held ⟨rfl, rfl, rfl, rfl, rfl, .inl⟩
    · exact h
  | headerMarkRead ch cylinder head sector size check =>
    cases e
    refine Kept.withAttempt h fun a held _ _ => ?_
    split
    · exact h
    · exact k.setAttempt h held (a.headerRead_advances _ _ _)
  | dataFieldRead ch code bytes =>
    cases e
    exact Kept.withAttempt h fun a held _ _ => k.setAttempt h held (s.dataRead_advances ch a code bytes)
  | recalStepInterval ch zero => exact k.recalStepInterval h e
  | seekStepInterval ch => exact k.seekStepInterval h e
  | settleEnd ch => exact k.settleEnd h e
  | spinUpTimeout ch =>
    change execSpinUpTimeout ch s = .next t at e
    unfold execSpinUpTimeout at e
    cases e
    dsimp only
    split
    next due => exact k.move (ch := ch) (k.reach h ((s.chan ch).spinUpTimer.getD 0)) (.spinFault due.1)
    next => exact h
  | idleTimeout ch =>
    change execIdleTimeout ch s = .next t at e
    unfold execIdleTimeout at e
    cases e
    dsimp only
    split
    next due => exact k.move (ch := ch) (k.reach h ((s.chan ch).idleTimer.getD 0)) (.idles due.1)
    next => exact h
  | recoveryTimeout ch => exact k.recoveryTimeout h e
  | sortDelayEnd ch =>
    change execSortDelayEnd ch s = .next t at e
    unfold execSortDelayEnd at e
    cases e
    dsimp only
    split
    next due => exact k.move (ch := ch) (k.reach h ((s.chan ch).sortTimer.getD 0)) (.strobes due.1)
    next => exact h
  | strobeEnd ch =>
    change execStrobeEnd ch s = .next t at e
    unfold execStrobeEnd at e
    cases e
    dsimp only
    split
    next due => exact k.move (ch := ch) (k.reach h ((s.chan ch).sortTimer.getD 0)) (.strobeEnds due.1 due.2)
    next => exact h
  | ejectTimeout ch =>
    change execEjectTimeout ch s = .next t at e
    unfold execEjectTimeout at e
    cases e
    dsimp only
    split
    next due => exact k.move (ch := ch) (k.reach h ((s.chan ch).ejectTimer.getD 0)) (.jams due.1)
    next => exact h
  | starvationTimeout =>
    change execStarvationTimeout s = .next t at e
    unfold execStarvationTimeout at e
    cases e
    split
    · exact h
    next due running => exact k.aborts _ _ (k.reach h due) (.inr (by rw [State.reach_control, running]; rfl))

/-- What each operation keeps, and what does not turn on the waiting commands, every step keeps. -/
theorem Kept.step {P : State → Prop} (k : Kept P) (queue : ∀ {s : State} (cs : List Instr), P s → P { s with pending := cs })
    {s t : State} (h : P s) (e : step s = .next t) : P t := by
  unfold Machine.step at e
  split at e
  · exact k.exec _ (queue _ h) e
  · cases e
    exact k.clock _ h (Nat.le_add_right _ _)

end Sys2Proof.Machine
end

section
/-!
What the operations of `Kept` leave alone; and that no command stops the part, touches the waiting commands or turns the
clock back.
-/

namespace Sys2Proof.Machine

/-! ### A turn of the Link Port -/

theorem OnlyLink.of_fields {s t : State} (pending : t.pending = s.pending) (now : t.now = s.now)
    (tables : t.tables = s.tables) (pool : t.pool = s.pool) (control : t.control = s.control)
    (store : t.store = s.store) (channels : t.channels = s.channels) : OnlyLink s t :=
  ⟨pending, now, tables, pool, control, store, fun i a => by rw [store], channels⟩

theorem OnlyLink.trans {s t u : State} (h : OnlyLink s t) (g : OnlyLink t u) : OnlyLink s u :=
  .of_fields (g.pending.trans h.pending) (g.now.trans h.now) (g.tables.trans h.tables) (g.pool.trans h.pool)
    (g.control.trans h.control) (g.store.trans h.store) (g.channels.trans h.channels)

theorem State.modLink_onlyLink (s : State) (f : LinkPort → LinkPort) : OnlyLink s (s.modLink f) :=
  .of_fields rfl rfl rfl rfl rfl rfl rfl

theorem State.place_onlyLink (s : State) (r : Report) : OnlyLink s (s.place r) := by
  constructor <;> simp [SameData]

theorem State.endInError_onlyLink (s : State) (r : Reception) (reason : FrameErrorReason) :
    OnlyLink s (s.endInError r reason) := by
  unfold State.endInError
  split
  · exact s.modLink_onlyLink _
  · exact (((s.modLink_onlyLink _).trans (State.modLink_onlyLink _ _)).trans (State.modLink_onlyLink _ _)).trans
      (State.place_onlyLink _ _)
  · exact ((s.modLink_onlyLink _).trans (State.modLink_onlyLink _ _)).trans (State.place_onlyLink _ _)

theorem State.judgeFrame_onlyLink (s : State) (r : Reception) (check : Check) : OnlyLink s (s.judgeFrame r check) := by
  unfold State.judgeFrame
  split
  · exact s.modLink_onlyLink _
  · exact s.endInError_onlyLink _ _
  · split
    · exact s.endInError_onlyLink _ _
    · exact (s.modLink_onlyLink _).trans (State.modLink_onlyLink _ _)

theorem State.linkByte_onlyLink (s : State) (b : Byte) (bad : Bool) : OnlyLink s (s.linkByte b bad) := by
  have received (r : Reception) : OnlyLink s (s.receiving r) := s.modLink_onlyLink _
  have changed (f : Frame → Frame) (r : Reception) : OnlyLink s ((s.modReceiving f).receiving r) :=
    (s.modLink_onlyLink _).trans (State.modLink_onlyLink _ _)
  have begun : OnlyLink s s.beginFrame := .of_fields rfl rfl rfl rfl rfl rfl rfl
  unfold State.linkByte
  split
  · split
    · exact begun
    · exact s.modLink_onlyLink _
  · unfold State.frameByte
    dsimp only
    split
    · split
      · exact changed _ _
      · exact received _
    split
    · exact received _
    split
    · split
      · exact s.endInError_onlyLink _ _
      · exact received _
    split
    · split
      · exact changed _ _
      · exact received _
    split
    · exact received _
    · exact s.judgeFrame_onlyLink _ _

/-- A turn of the Link Port leaves every other block alone. -/
theorem LinkTurn.onlyLink {s t : State} (h : LinkTurn s t) : OnlyLink s t := by
  cases h with
  | byte b bad => exact s.linkByte_onlyLink b bad
  | truncated r => exact s.endInError_onlyLink r _
  | returnHold | transmit | stale | counted | dropHead => exact s.modLink_onlyLink _
  | sent => exact .of_fields rfl rfl rfl rfl rfl rfl rfl
  | place r => exact s.place_onlyLink r

/-! ### A finished track, a settle, a placed result -/

theorem State.nextTrack_eq (s : State) (ch : ChannelNo) (t : Nat) :
    s.nextTrack ch t = s.setChan ch
      (({ s.chan ch with cursor := some t, attempts := 0 } : Channel).enterSeeking (s.physicalCylinder t)
        (s.layout.headOf t) s.now) := rfl

/-- A finished track is discarded, and the next one is sought or the copy passes (R74). -/
theorem State.finishTrack_eq (s : State) (ch : ChannelNo) (a : Attempt) :
    s.finishTrack ch a =
      if s.layout.tracks ≤ a.track + 1 then (s.trackDone ch a).endCopy ch .passed
      else (s.trackDone ch a).nextTrack ch (a.track + 1) := by
  unfold State.finishTrack State.trackDone State.leaveSource
  cases a.source <;> rfl

theorem State.finishTrack_fields (s : State) (ch : ChannelNo) (a : Attempt) :
    (s.finishTrack ch a).pending = s.pending ∧ (s.finishTrack ch a).now = s.now ∧
      (s.finishTrack ch a).tables = s.tables ∧ (s.finishTrack ch a).reports = s.reports := by
  rw [State.finishTrack_eq]
  split
  · simp [State.trackDone]
  · simp [State.nextTrack_eq, State.trackDone]

/-! ### The opening of a pass -/

/-- Dealing with a channel changes the channels, the pool and the Pass Controller alone (R47, R48). -/
structure DealingFields (s t : State) : Prop where
  pending : t.pending = s.pending
  now     : t.now = s.now
  tables  : t.tables = s.tables
  store   : t.store = s.store
  link    : t.link = s.link
  reports : t.reports = s.reports
  job     : t.control.job = s.control.job

theorem dealWith_fields (d : Dealing) (ch : ChannelNo) : DealingFields d.state (dealWith d ch).state := by
  unfold dealWith
  dsimp only
  split
  · exact ⟨rfl, rfl, rfl, rfl, rfl, rfl, rfl⟩
  · split
    · exact ⟨rfl, rfl, rfl, rfl, rfl, rfl, rfl⟩
    · exact ⟨rfl, rfl, rfl, rfl, rfl, rfl, rfl⟩
  all_goals exact ⟨rfl, rfl, rfl, rfl, rfl, rfl, rfl⟩

theorem foldl_dealWith_fields (chs : List ChannelNo) (d : Dealing) :
    DealingFields d.state (chs.foldl dealWith d).state := by
  induction chs generalizing d with
  | nil => exact ⟨rfl, rfl, rfl, rfl, rfl, rfl, rfl⟩
  | cons ch chs ih =>
    obtain ⟨pending, now, tables, store, link, reports, job⟩ := ih (dealWith d ch)
    obtain ⟨pending', now', tables', store', link', reports', job'⟩ := dealWith_fields d ch
    exact ⟨pending.trans pending', now.trans now', tables.trans tables', store.trans store', link.trans link',
      reports.trans reports', job.trans job'⟩

/-- The part as the channels have been dealt with at the opening of a pass. -/
def State.dealt (s : State) (tag : Byte) (trackZero : ChannelSet) : Dealing :=
  channelsUp.foldl dealWith ⟨s.openPass tag trackZero, [], [], none⟩

theorem State.dealt_fields (s : State) (tag : Byte) (trackZero : ChannelSet) :
    DealingFields (s.openPass tag trackZero) (s.dealt tag trackZero).state :=
  foldl_dealWith_fields channelsUp ⟨s.openPass tag trackZero, [], [], none⟩

/-- The reports of a PASS-BEGIN go to the Report Queue, and the pass closes again if it enrolled nobody (R49). -/
theorem State.beginPass_eq (s : State) (tag : Byte) (trackZero : ChannelSet) :
    s.beginPass tag trackZero =
      ((s.dealt tag trackZero).low.elim
        ((s.dealt tag trackZero).state.place
          (.passOpened tag (s.dealt tag trackZero).enrolled (s.dealt tag trackZero).notEnrolled))
        fun n => ((s.dealt tag trackZero).state.place
          (.passOpened tag (s.dealt tag trackZero).enrolled (s.dealt tag trackZero).notEnrolled)).place
            (.poolLow n)).closeIfEmpty := by
  unfold State.beginPass State.dealt
  dsimp only
  generalize channelsUp.foldl dealWith _ = d
  cases d.low <;> rfl

/-- What two placed reports and the closing of an empty pass leave of the dealing. -/
theorem State.beginPass_onlyLink (s : State) (tag : Byte) (trackZero : ChannelSet) :
    ∃ u, OnlyLink (s.dealt tag trackZero).state u ∧ s.beginPass tag trackZero = u.closeIfEmpty := by
  rw [State.beginPass_eq]
  generalize s.dealt tag trackZero = d
  have opened := d.state.place_onlyLink (.passOpened tag d.enrolled d.notEnrolled)
  generalize d.state.place (.passOpened tag d.enrolled d.notEnrolled) = u at opened ⊢
  cases d.low with
  | none => exact ⟨u, opened, rfl⟩
  | some n => exact ⟨u.place (.poolLow n), opened.trans (u.place_onlyLink _), rfl⟩

theorem State.beginPass_fields (s : State) (tag : Byte) (trackZero : ChannelSet) :
    (s.beginPass tag trackZero).pending = s.pending ∧ (s.beginPass tag trackZero).now = s.now ∧
      (s.beginPass tag trackZero).tables = s.tables ∧
      (s.beginPass tag trackZero).store = { s.store with fillCursor := 0 } ∧
      (s.beginPass tag trackZero).control.job = s.control.job := by
  obtain ⟨u, only, e⟩ := s.beginPass_onlyLink tag trackZero
  obtain ⟨pending, now, tables, store, -, -, job⟩ := s.dealt_fields tag trackZero
  have same : (u.closeIfEmpty).pending = u.pending ∧ u.closeIfEmpty.now = u.now ∧ u.closeIfEmpty.tables = u.tables ∧
      u.closeIfEmpty.store = u.store ∧ u.closeIfEmpty.control.job = u.control.job := by
    unfold State.closeIfEmpty
    split <;> exact ⟨rfl, rfl, rfl, rfl, rfl⟩
  obtain ⟨h1, h2, h3, h4, h5⟩ := same
  rw [e, h1, h2, h3, h4, h5, only.pending, only.now, only.tables, only.store, only.control, pending, now, tables, store,
    job]
  exact ⟨rfl, rfl, rfl, rfl, rfl⟩

/-! ### The queue and the clock -/

/-- No operation touches the waiting commands, and none turns the clock back. -/
theorem kept_queue_clock (u : State) : Kept fun t => t.pending = u.pending ∧ u.now ≤ t.now where
  clock n h later := ⟨h.1, Nat.le_trans h.2 later⟩
  link h turn := by rw [turn.onlyLink.pending, turn.onlyLink.now]; exact h
  tables h _ := h
  append _ h _ _ := h
  clear h := h
  move h _ := h
  fails _ _ h _ _ := by rw [State.endCopy_pending, State.endCopy_now]; exact h
  finishes h _ _ := by
    obtain ⟨pending, now, -⟩ := State.finishTrack_fields _ _ _
    rw [pending, now]
    exact h
  settles h _ _ := h
  placed h _ _ := h
  job h _ _ := h
  begins _ h _ := by
    obtain ⟨pending, now, -⟩ := State.beginPass_fields _ _ _
    rw [pending, now]
    exact h
  aborts reason close h _ := by
    obtain ⟨pending, now, -⟩ := (State.abortPass_ended _ reason close).rest
    rw [pending, now]
    exact h
  closes h _ := h
  written h _ := by
    obtain ⟨pending, now, -⟩ := State.acceptSegment_fields _ _ _
    rw [pending, now]
    exact h
  allotted h _ := by
    obtain ⟨pending, now, -⟩ := State.acceptSegment_fields _ _ _
    rw [pending, now]
    exact h
  partReset h := by
    unfold State.partReset
    rw [State.place_pending, State.place_now]
    exact h
  powerOn a b h e := by cases e; exact h

/-- Every command answers a next state. -/
theorem exists_exec_eq_next (c : Instr) (s : State) : ∃ t, exec c s = .next t := by
  cases c <;> exact ⟨_, rfl⟩

/-- Settles O2: each command answers a next state, and its operations leave the queue and let the clock only go on. -/
theorem everyCommandCompletes : Obligations.EveryCommandCompletes := by
  intro c s
  obtain ⟨t, e⟩ := exists_exec_eq_next c s
  obtain ⟨pending, now⟩ := (kept_queue_clock s).exec c ⟨rfl, Nat.le_refl _⟩ e
  exact ⟨t, e, pending, now⟩

end Sys2Proof.Machine
end

section
/-!
What the events of a channel leave of its copy and its settings: a channel without a copy goes onward without touching
either, and no move begins or ends a copy.
-/

namespace Sys2Proof.Machine

/-- The active and the pending settings record are within the ranges of R62. -/
def Channel.SettingsOk (c : Channel) : Prop :=
  c.active.inRange = true ∧ ∀ r, c.pendingRecord = some r → r.inRange = true

theorem Channel.SettingsOk.setEnabled {c : Channel} (h : c.SettingsOk) (yes : Bool) : (c.setEnabled yes).SettingsOk := by
  refine ⟨h.1, fun r hr => ?_⟩
  obtain ⟨q, held, rfl⟩ := Option.map_eq_some_iff.mp hr
  exact h.2 q held

theorem Channel.SettingsOk.applyPending {c : Channel} (h : c.SettingsOk) : c.applyPending.SettingsOk := by
  refine ⟨?_, nofun⟩
  cases pending : c.pendingRecord with
  | none => rw [Channel.applyPending_active, pending]; exact h.1
  | some r => rw [Channel.applyPending_active, pending]; exact h.2 r pending

/-- A channel without a copy has gone on to another state without one. -/
structure Channel.Onward (c d : Channel) : Prop where
  copy     : d.copy = c.copy
  cursor   : d.cursor = c.cursor
  attempt  : d.attempt = c.attempt
  settings : c.SettingsOk → d.SettingsOk
  off      : d.state.isCopy = false ∧ d.state ≠ .reporting

namespace Channel

theorem Onward.trans {c d e : Channel} (h : c.Onward d) (g : d.Onward e) : c.Onward e :=
  ⟨g.copy.trans h.copy, g.cursor.trans h.cursor, g.attempt.trans h.attempt, g.settings ∘ h.settings, g.off⟩

/-- A change of a channel before it goes onward that touches neither copy nor settings. -/
theorem Onward.from {b c d : Channel} (h : c.Onward d) (copy : c.copy = b.copy) (cursor : c.cursor = b.cursor)
    (attempt : c.attempt = b.attempt) (settings : b.SettingsOk → c.SettingsOk) : b.Onward d :=
  ⟨h.copy.trans copy, h.cursor.trans cursor, h.attempt.trans attempt, h.settings ∘ settings, h.off⟩

variable (c : Channel) (ch : ChannelNo) (now : Nat)

theorem leaveFor_onward {st : ChState} (off : st.isCopy = false ∧ st ≠ .reporting) : c.Onward (c.leaveFor st now) :=
  ⟨rfl, rfl, rfl, id, off⟩

theorem enterReady_onward : c.Onward (c.enterReady now) := ⟨rfl, rfl, rfl, id, rfl, nofun⟩

theorem enterRejecting_onward (ev : ChannelEvent) : c.Onward (c.enterRejecting ch ev now) :=
  ⟨rfl, rfl, rfl, id, rfl, nofun⟩

theorem stableInSpinup_onward : c.Onward (c.stableInSpinup ch now) := by
  unfold stableInSpinup
  split
  · exact c.enterRejecting_onward ch now _
  · exact c.enterReady_onward now

theorem enterSpinup_onward : c.Onward (c.enterSpinup ch now) := by
  unfold enterSpinup
  dsimp only
  split
  · exact (stableInSpinup_onward _ ch now).from rfl rfl rfl id
  · exact ⟨rfl, rfl, rfl, id, rfl, nofun⟩

theorem enterEmptyOrSpinup_onward : c.Onward (c.enterEmptyOrSpinup ch now) := by
  have empty := c.leaveFor_onward now (st := .empty) ⟨rfl, nofun⟩
  unfold enterEmptyOrSpinup
  dsimp only
  split
  · exact empty.trans (enterSpinup_onward _ ch now)
  · exact empty

theorem rearm_onward : c.Onward (c.rearm ch now) := by
  unfold rearm
  dsimp only
  split
  · exact (enterEmptyOrSpinup_onward _ ch now).from rfl rfl rfl id
  · exact ⟨rfl, rfl, rfl, fun ok => SettingsOk.setEnabled (c := c) ok false, rfl, nofun⟩

theorem goOn_onward : c.Onward (c.goOn ch now) := by
  unfold goOn
  dsimp only
  split
  · split
    · exact (enterSpinup_onward _ ch now).from rfl rfl rfl id
    · exact ⟨rfl, rfl, rfl, id, rfl, nofun⟩
  · exact ⟨rfl, rfl, rfl, id, rfl, nofun⟩

theorem enterSorting_onward (sort : Strobe) : c.Onward (c.enterSorting sort now) := by
  unfold enterSorting
  dsimp only
  split <;> exact ⟨rfl, rfl, rfl, id, rfl, nofun⟩

theorem endStrobe_onward : c.Onward (c.endStrobe ch now) := by
  unfold endStrobe
  split
  · exact c.rearm_onward ch now
  · exact ⟨rfl, rfl, rfl, id, rfl, nofun⟩

theorem afterEvent_onward : c.Onward (c.afterEvent ch now) := by
  unfold afterEvent
  split
  · exact c.goOn_onward ch now
  · split
    · exact c.enterSorting_onward now _
    · exact c.rearm_onward ch now

theorem afterResult_onward (sort : Option Strobe) : c.Onward (c.afterResult ch sort now) := by
  unfold afterResult
  split
  · exact c.goOn_onward ch now
  · split
    · exact c.rearm_onward ch now
    · split
      · exact c.enterSorting_onward now _
      · exact c.rearm_onward ch now

theorem SettingsOk.cleared {c : Channel} (h : c.SettingsOk) (now : Nat) : (c.cleared now).SettingsOk := h.applyPending

end Channel

/-- A channel whose copy, if it has one, has neither begun nor ended, and which neither waits for a track nor has ceased to
wait for one. -/
structure Channel.SameCopy (c d : Channel) : Prop where
  bound     : d.bound = c.bound
  copy      : d.copy.isSome = c.copy.isSome
  cursor    : d.cursor = c.cursor
  isCopy    : d.state.isCopy = c.state.isCopy
  reporting : d.state = .reporting ↔ c.state = .reporting
  waiting   : d.state = .waitingTrack ↔ c.state = .waitingTrack
  settings  : c.SettingsOk → d.SettingsOk

namespace Channel

theorem bound_congr {c d : Channel} (h : d.copy = c.copy) : d.bound = c.bound := by rw [bound, h, bound]

/-- A change that leaves state, copy, cursor and settings. -/
theorem SameCopy.of_same {c d : Channel} (state : d.state = c.state) (copy : d.copy = c.copy)
    (cursor : d.cursor = c.cursor) (active : d.active = c.active) (pending : d.pendingRecord = c.pendingRecord) :
    c.SameCopy d :=
  ⟨bound_congr copy, by rw [copy], cursor, by rw [state], by rw [state], by rw [state],
    fun ok => ⟨active ▸ ok.1, pending ▸ ok.2⟩⟩

theorem not_isCopy_ne_waitingTrack {st : ChState} (h : st.isCopy = false) : st ≠ .waitingTrack := by
  rintro rfl; cases h

/-- A channel without a copy that goes onward. -/
theorem Onward.sameCopy {c d : Channel} (h : c.Onward d) (off : c.state.isCopy = false) (told : c.state ≠ .reporting) :
    c.SameCopy d :=
  ⟨bound_congr h.copy, by rw [h.copy], h.cursor, h.off.1.trans off.symm, iff_of_false h.off.2 told,
    iff_of_false (not_isCopy_ne_waitingTrack h.off.1) (not_isCopy_ne_waitingTrack off), h.settings⟩

/-- A channel that goes on from one copy state to another, neither of them WAITING-TRACK. -/
theorem SameCopy.of_copying {c d : Channel} (before : c.state.isCopy = true ∧ c.state ≠ .waitingTrack)
    (after : d.state.isCopy = true ∧ d.state ≠ .waitingTrack) (bound : d.bound = c.bound)
    (copy : d.copy.isSome = c.copy.isSome) (cursor : d.cursor = c.cursor) (settings : c.SettingsOk → d.SettingsOk) :
    c.SameCopy d := by
  have told {st : ChState} (h : st.isCopy = true) : st ≠ .reporting := by rintro rfl; cases h
  exact ⟨bound, copy, cursor, after.1.trans before.1.symm, iff_of_false (told after.1) (told before.1),
    iff_of_false after.2 before.2, settings⟩

/-- A change of the copy record that leaves the serial and its disposition leaves what is bound. -/
theorem bound_modCopy (c : Channel) (f : CopyRecord → CopyRecord)
    (h : ∀ r, (f r).serial = r.serial ∧ (f r).disposition = r.disposition) : (c.modCopy f).bound = c.bound := by
  unfold bound
  rw [modCopy_copy]
  cases c.copy with
  | none => rfl
  | some r => simp [h]

theorem actEnable_sameCopy (c : Channel) (ch : ChannelNo) (now : Nat) : c.SameCopy (c.actEnable ch now) := by
  unfold actEnable
  split
  next off => exact (c.enterEmptyOrSpinup_onward ch now).sameCopy (by rw [off]; rfl) (by rw [off]; nofun)
  next => exact .of_same rfl rfl rfl rfl rfl

theorem actDisable_sameCopy (c : Channel) (now : Nat) : c.SameCopy (c.actDisable now) := by
  have leaves (off : c.state.isCopy = false) (told : c.state ≠ .reporting) : c.SameCopy (c.leaveFor .offline now) :=
    (c.leaveFor_onward now (st := .offline) ⟨rfl, nofun⟩).sameCopy off told
  have stays : c.SameCopy c := .of_same rfl rfl rfl rfl rfl
  unfold actDisable
  split
  case h_1 st | h_2 st | h_3 st | h_4 st => exact leaves (by rw [st]; rfl) (by rw [st]; nofun)
  all_goals exact stays

theorem SameCopy.trans {c d e : Channel} (h : c.SameCopy d) (g : d.SameCopy e) : c.SameCopy e :=
  ⟨g.bound.trans h.bound, g.copy.trans h.copy, g.cursor.trans h.cursor, g.isCopy.trans h.isCopy,
    g.reporting.trans h.reporting, g.waiting.trans h.waiting, g.settings ∘ h.settings⟩

theorem setEnabled_sameCopy (c : Channel) (yes : Bool) : c.SameCopy (c.setEnabled yes) :=
  ⟨rfl, rfl, rfl, rfl, Iff.rfl, Iff.rfl, fun ok => ok.setEnabled yes⟩

theorem placeSettings_sameCopy (c : Channel) (ch : ChannelNo) {r : Settings} (now : Nat) (h : r.inRange = true) :
    c.SameCopy (c.placeSettings ch r now) := by
  have waits : c.SameCopy { c with pendingRecord := some r } :=
    ⟨rfl, rfl, rfl, rfl, Iff.rfl, Iff.rfl, fun ok => ⟨ok.1, fun q hq => Option.some.inj hq ▸ h⟩⟩
  have active : c.SameCopy { c with active := r, pendingRecord := none } :=
    ⟨rfl, rfl, rfl, rfl, Iff.rfl, Iff.rfl, fun _ => ⟨h, nofun⟩⟩
  unfold placeSettings
  dsimp only
  split
  · exact waits
  · split
    · exact active
    · split
      · exact active.trans (actEnable_sameCopy _ ch now)
      · exact active.trans (actDisable_sameCopy _ now)

theorem resetAfterCopy_sameCopy (c : Channel) (ch : ChannelNo) (now : Nat) (off : c.state.isCopy = false) :
    c.SameCopy (c.resetAfterCopy ch now) := by
  unfold resetAfterCopy
  split
  · exact ⟨rfl, rfl, rfl, rfl, Iff.rfl, Iff.rfl, fun ok => ok.cleared now⟩
  next other =>
    exact ((goOn_onward (c.cleared now) ch now).from (b := c) rfl rfl rfl fun ok => ok.cleared now).sameCopy off
      fun told => other (.inl told)

theorem seekOn_sameCopy (c : Channel) (target head now : Nat) : c.SameCopy (c.seekOn target head now) := by
  unfold seekOn
  split
  · exact .of_same rfl rfl rfl rfl rfl
  · split
    · exact .of_same rfl rfl rfl rfl rfl
    · split <;> exact .of_same rfl rfl rfl rfl rfl

theorem enterSeeking_sameCopy (c : Channel) (target head now : Nat)
    (copying : c.state.isCopy = true ∧ c.state ≠ .waitingTrack) : c.SameCopy (c.enterSeeking target head now) := by
  have entered : c.SameCopy ((({ c with recalSteps := 0, stepTimer := none } : Channel).enter .seeking now).aim target) :=
    .of_copying copying ⟨rfl, nofun⟩ rfl rfl rfl id
  exact entered.trans (seekOn_sameCopy _ target head now)

theorem recover_sameCopy (c : Channel) (before after : Monitor) (now : Nat) :
    c.SameCopy (c.recover before after now) := by
  unfold recover
  split
  · exact .of_same rfl rfl rfl rfl rfl
  · split <;> exact .of_same rfl rfl rfl rfl rfl

theorem holdOnce_sameCopy (c : Channel) (r : Report) : c.SameCopy (c.holdOnce r) :=
  .of_same (by simp) (by simp) (by simp) (by simp) (by simp)

theorem attemptLost_sameCopy (c : Channel) (detail : Option VerifyDetail) (now : Nat)
    (st : c.state = .waitingIndex ∨ c.state = .writing ∨ c.state = .verifying) :
    c.SameCopy (c.attemptLost detail now) := by
  refine .of_copying ?_ ⟨rfl, nofun⟩ (bound_modCopy _ _ fun _ => ⟨rfl, rfl⟩) (by simp [attemptLost]) rfl id
  rcases st with st | st | st <;> rw [st] <;> exact ⟨rfl, nofun⟩

end Channel

/-- No move begins or ends a copy. -/
theorem ChannelMove.sameCopy {s : State} {ch : ChannelNo} {d : Channel} (h : ChannelMove s ch d) :
    (s.chan ch).SameCopy d := by
  generalize c_eq : s.chan ch = c
  have off {st : ChState} (eq : c.state = st) (h : st.isCopy = false) : c.state.isCopy = false := eq ▸ h
  have told {st : ChState} (eq : c.state = st) (h : st ≠ .reporting) : c.state ≠ .reporting := eq ▸ h
  have same {e : Channel} (g : c.Onward e) {st : ChState} (eq : c.state = st) (h : st.isCopy = false ∧ st ≠ .reporting) :
      c.SameCopy e := g.sameCopy (off eq h.1) (told eq h.2)
  cases h with
  | lines | mediaSeen | mediaIgnored | mediaNoted | flagsCleared | edgeMeasured | edgeTrails | lapses | attempt | gateOn |
      recalibrates | strobes | eventPlaced => exact c_eq ▸ .of_same rfl rfl rfl rfl rfl
  | mediaStarts empty =>
    subst c_eq
    exact same ((Channel.enterSpinup_onward _ ch s.now).from rfl rfl rfl id) empty ⟨rfl, nofun⟩
  | mediaEmpties st =>
    subst c_eq
    have leaves := (Channel.leaveFor_onward ((s.chan ch).modLines fun l => { l with mediaPresent := false }) s.now
      (st := .empty) ⟨rfl, nofun⟩).from (b := s.chan ch) rfl rfl rfl id
    rcases st with st | st | st <;> exact same leaves st ⟨rfl, nofun⟩
  | mediaRearms st =>
    subst c_eq
    have rearms := (Channel.rearm_onward ((s.chan ch).modLines fun l => { l with mediaPresent := false }) ch s.now).from
      (b := s.chan ch) rfl rfl rfl id
    rcases st with ⟨st, -⟩ | st | st <;> exact same rearms st ⟨rfl, nofun⟩
  | settings r valid => exact c_eq ▸ Channel.placeSettings_sameCopy _ ch s.now valid
  | enable => exact c_eq ▸ (Channel.setEnabled_sameCopy _ true).trans (Channel.actEnable_sameCopy _ ch s.now)
  | disable => exact c_eq ▸ (Channel.setEnabled_sameCopy _ false).trans (Channel.actDisable_sameCopy _ s.now)
  | sortDropped =>
    exact c_eq ▸ ⟨Channel.bound_modCopy _ _ fun _ => ⟨rfl, rfl⟩, by simp, rfl, rfl, Iff.rfl, Iff.rfl, id⟩
  | reset free => exact c_eq ▸ Channel.resetAfterCopy_sameCopy _ ch s.now free
  | edgeStarts t st =>
    subst c_eq
    exact same ((Channel.stableInSpinup_onward _ ch s.now).from rfl rfl rfl id) st ⟨rfl, nofun⟩
  | edgeLoses t st =>
    subst c_eq
    exact same ((Channel.enterSpinup_onward _ ch s.now).from rfl rfl rfl id) st ⟨rfl, nofun⟩
  | lapseLoses running st =>
    subst c_eq
    exact same ((Channel.enterSpinup_onward _ ch s.now).from rfl rfl rfl id) st ⟨rfl, nofun⟩
  | edgeRecovers t =>
    have measured : (s.chan ch).SameCopy ((s.chan ch).measured t s.now) := .of_same rfl rfl rfl rfl rfl
    exact c_eq ▸ measured.trans (Channel.recover_sameCopy _ _ _ _)
  | writing st =>
    subst c_eq
    exact .of_copying (st ▸ ⟨rfl, nofun⟩) ⟨rfl, nofun⟩ (Channel.bound_modCopy _ _ fun _ => ⟨rfl, rfl⟩) (by simp) rfl id
  | verifying a st => subst c_eq; exact .of_copying (st ▸ ⟨rfl, nofun⟩) ⟨rfl, nofun⟩ rfl rfl rfl id
  | attemptLost detail st => exact c_eq ▸ Channel.attemptLost_sameCopy _ detail s.now st
  | recalibrated st =>
    subst c_eq
    have found : (s.chan ch).SameCopy { s.chan ch with cylinder := some 0 } := .of_same rfl rfl rfl rfl rfl
    refine found.trans (Channel.enterSeeking_sameCopy _ _ _ _ ?_)
    show (s.chan ch).state.isCopy = true ∧ (s.chan ch).state ≠ .waitingTrack
    rw [st]
    exact ⟨rfl, nofun⟩
  | seeks => exact c_eq ▸ Channel.seekOn_sameCopy _ _ _ _
  | spinFault st => subst c_eq; exact same (Channel.enterRejecting_onward _ ch s.now _) st ⟨rfl, nofun⟩
  | idles st =>
    subst c_eq
    exact (same (Channel.leaveFor_onward _ s.now (st := .stopped) ⟨rfl, nofun⟩) st ⟨rfl, nofun⟩).trans
      (Channel.holdOnce_sameCopy _ _)
  | strobeEnds st => subst c_eq; exact same (Channel.endStrobe_onward _ ch s.now) st ⟨rfl, nofun⟩
  | jams st =>
    subst c_eq
    have jammed : (s.chan ch).Onward { (s.chan ch).enter .jammed s.now with ejectTimer := none } :=
      ⟨rfl, rfl, rfl, id, rfl, nofun⟩
    exact (same jammed st ⟨rfl, nofun⟩).trans (Channel.holdOnce_sameCopy _ _)
  | rejectPlaced r rest held tail st =>
    subst c_eq
    exact same ((Channel.afterEvent_onward _ ch s.now).from rfl rfl rfl id) st ⟨rfl, nofun⟩

end Sys2Proof.Machine
end

section
/-!
The laws of the tables, the job, the settings and the data areas (R2, R3, R18, R41, R62, R136, R156): every step keeps
them.
-/

namespace Sys2Proof.Machine

/-! ### Inductions over the channels of a pass -/

/-- What dealing with one channel at the opening of a pass does (R47). -/
theorem dealWith_cases (d : Dealing) (ch : ChannelNo) :
    (dealWith d ch).state = d.state ∨
      ((d.state.chan ch).state = .stopped ∧
        (dealWith d ch).state = d.state.setChan ch ((d.state.chan ch).enterSpinup ch d.state.now)) ∨
      ((d.state.chan ch).state = .ready ∧ d.state.notEnrolled (d.state.chan ch) = none ∧
        (dealWith d ch).state = d.state.enroll ch) := by
  unfold dealWith
  dsimp only
  split
  next st => exact .inr (.inl ⟨st, rfl⟩)
  next st =>
    split
    · exact .inl rfl
    next free => exact .inr (.inr ⟨st, free, rfl⟩)
  all_goals exact .inl rfl

/-- What the opening of a pass has, and what each channel dealt with keeps, holds when all have been dealt with. -/
theorem State.dealt_induct {Q : State → Prop} {s : State} {tag : Byte} {trackZero : ChannelSet}
    (opens : Q (s.openPass tag trackZero))
    (spins : ∀ (u : State) (ch : ChannelNo), Q u → (u.chan ch).state = .stopped →
      Q (u.setChan ch ((u.chan ch).enterSpinup ch u.now)))
    (enrolls : ∀ (u : State) (ch : ChannelNo), Q u → (u.chan ch).state = .ready → u.notEnrolled (u.chan ch) = none →
      Q (u.enroll ch)) : Q (s.dealt tag trackZero).state := by
  have each : ∀ (chs : List ChannelNo) (d : Dealing), Q d.state → Q (chs.foldl dealWith d).state := by
    intro chs
    induction chs with
    | nil => exact fun _ h => h
    | cons ch chs ih =>
      intro d h
      refine ih _ ?_
      rcases dealWith_cases d ch with e | ⟨st, e⟩ | ⟨st, free, e⟩
      · rw [e]; exact h
      · rw [e]; exact spins _ _ h st
      · rw [e]; exact enrolls _ _ h st free
  exact each channelsUp ⟨s.openPass tag trackZero, [], [], none⟩ opens

/-- What the end of a live copy keeps, and the closing of the pass after it, an abort keeps (R54). -/
theorem State.abortPass_induct {Q R : State → Prop} {s : State} {reason : CopyReason} {close : CloseReason} (h : Q s)
    (ends : ∀ (u : State) (ch : ChannelNo), Q u → setHas u.control.pass.live ch = true →
      Q (u.endCopyOnly ch (.failed reason (some .reject))))
    (closes : ∀ u, Q u → R (u.closePass close)) : R (s.abortPass reason close) := by
  have each : ∀ (chs : List ChannelNo) (u : State), Q u → Q (chs.foldl (State.abortOne reason) u) := by
    intro chs
    induction chs with
    | nil => exact fun _ h => h
    | cons ch chs ih =>
      intro u h
      refine ih _ ?_
      unfold State.abortOne
      split
      next live => exact ends u ch h live
      next => exact h
  exact closes _ (each channelsDown s h)

/-! ### A segment that the checks pass -/

/-- A segment is stale, refused, or left to the checks on the slots with a body that fits the layout (R21 to R23). -/
theorem State.segmentFate_cases (s : State) (body : List Byte) :
    s.segmentFate body = .stale ∨ (∃ r, s.segmentFate body = .refused r) ∨
      (s.passOpen = true ∧ s.formatOnly = false ∧ s.layout.segmentReason body = none ∧
        s.segmentFate body = s.slotFate (num1 body 1)) := by
  unfold State.segmentFate
  split
  next tag =>
    have opened : s.passOpen = true := by simp [State.tagMatches] at tag; exact tag.1
    split
    · exact .inr (.inl ⟨_, rfl⟩)
    next stream =>
      split
      · exact .inr (.inl ⟨_, rfl⟩)
      next fits => exact .inr (.inr ⟨opened, by simpa using stream, fits, rfl⟩)
  next => exact .inl rfl

/-- A body that passes the checks of R23. -/
theorem Layout.segmentReason_none {l : Layout} {body : List Byte} (h : l.segmentReason body = none) :
    num1 body 1 < l.tracks ∧ 1 ≤ num1 body 3 ∧ num1 body 2 + num1 body 3 ≤ l.n ∧
      (body.drop 4).length = num1 body 3 * l.size := by
  unfold Layout.segmentReason at h
  split at h
  · cases h
  split at h
  · cases h
  split at h
  · cases h
  split at h
  · cases h
  · rw [List.length_drop]
    omega

/-- Its sectors lie within the data area (R2, R3, R18). -/
theorem Layout.segment_fits {l : Layout} {body : List Byte} (h : l.segmentReason body = none)
    (area : l.n * l.size ≤ Config.slotBytes) : num1 body 2 * l.size + (body.drop 4).length ≤ Config.slotBytes := by
  obtain ⟨-, -, last, length⟩ := Layout.segmentReason_none h
  calc num1 body 2 * l.size + (body.drop 4).length = (num1 body 2 + num1 body 3) * l.size := by
        rw [length, Nat.add_mul]
    _ ≤ l.n * l.size := Nat.mul_le_mul_right _ last
    _ ≤ Config.slotBytes := area

/-- After a segment's acceptance a channel is as it was, or has gone from waiting for the track to waiting for the
index (R29). -/
theorem State.acceptSegment_chan (s : State) (i : Fin 8) (body : List Byte) (ch : ChannelNo) :
    (s.acceptSegment i body).chan ch =
      if (s.store.slots[i].written s.layout body).full s.layout = true ∧
          setHas s.store.slots[i].claims ch = true ∧ (s.chan ch).state = .waitingTrack ∧
          (s.chan ch).cursor = s.store.slots[i].track ∧ s.store.slots[i].track.isSome = true then
        { s.chan ch with state := .waitingIndex }
      else s.chan ch := by
  generalize hu : (s.setSlot i (s.store.slots[i].written s.layout body)).restartStarvation = u
  have slot : u.store.slots[i] = s.store.slots[i].written s.layout body := by
    subst hu; exact State.slot_setSlot_self s i _
  have layout : u.layout = s.layout := by subst hu; rfl
  have chan : u.chan ch = s.chan ch := by subst hu; rfl
  have step : (s.acceptSegment i body).chan ch = (u.completeIfFull i).chan ch := by subst hu; rfl
  rw [step, State.completeIfFull_chan, slot, layout, chan]
  have claims : (s.store.slots[i].written s.layout body).claims = s.store.slots[i].claims := rfl
  have track : (s.store.slots[i].written s.layout body).track = s.store.slots[i].track := rfl
  rw [claims, track]
  by_cases full : (s.store.slots[i].written s.layout body).full s.layout = true
  · rw [if_pos full]
    unfold Channel.trackReady
    by_cases waits : setHas s.store.slots[i].claims ch = true ∧ (s.chan ch).state = .waitingTrack ∧
        (s.chan ch).cursor = s.store.slots[i].track ∧ s.store.slots[i].track.isSome = true
    · rw [if_pos waits, if_pos ⟨full, waits⟩, Channel.enter_of_motor _ _ _ (by rw [waits.2.1]; rfl)]
    · rw [if_neg waits, if_neg fun x => waits x.2]
  · rw [if_neg full, if_neg fun x => full x.1]

/-- A finished track is given up in the slot it was read from, and the other slots stay (R33). -/
theorem State.trackDone_slot (s : State) (ch : ChannelNo) (a : Attempt) (j : Fin 8) :
    (s.trackDone ch a).store.slots[j] =
      if a.source = .slot j then s.store.slots[j].release ch else s.store.slots[j] := by
  unfold State.trackDone
  rw [State.setChan_store]
  obtain ⟨source, -⟩ := a
  cases source with
  | fill => simp
  | slot i =>
    by_cases same : (i : Nat) = j
    · obtain rfl : i = j := Fin.ext same
      simp
    · have other : i ≠ j := fun e => same (congrArg _ e)
      simp [same, other]

/-! ### The law -/

theorem TablesLaw.settingsOk {s : State} (h : TablesLaw s) (ch : ChannelNo) : (s.chan ch).SettingsOk :=
  ⟨h.active ch, h.waiting ch⟩

/-- The layout in force fills no more than a data area (R3). -/
theorem TablesLaw.layout_area {s : State} (h : TablesLaw s) : s.layout.n * s.layout.size ≤ Config.slotBytes := by
  unfold State.layout
  cases found : s.control.job.bind fun j => s.tables.layouts[j.layoutIndex] with
  | none => decide
  | some l =>
    obtain ⟨j, -, entry⟩ := Option.bind_eq_some_iff.mp found
    have valid := h.layouts j.layoutIndex l entry
    simp only [Layout.valid, Bool.and_eq_true, decide_eq_true_eq] at valid
    exact valid.2

/-- A state whose tables are as before, and whose job, settings and data areas are in order. -/
theorem TablesLaw.next {s t : State} (h : TablesLaw s) (tables : t.tables = s.tables)
    (job : ∀ j, t.control.job = some j → j.valid = true) (settings : ∀ ch, (t.chan ch).SettingsOk)
    (data : ∀ i : Fin 8, dataOk t.store.slots[i].data = true) : TablesLaw t :=
  ⟨by rw [tables]; exact h.layouts, by rw [tables]; exact h.patches, by rw [tables]; exact h.precompD,
    by rw [tables]; exact h.precompH, job, fun ch => (settings ch).1, fun ch => (settings ch).2, data⟩

/-- One channel has been replaced. -/
theorem TablesLaw.setChan {s : State} (h : TablesLaw s) (ch : ChannelNo) {c : Channel} (ok : c.SettingsOk) :
    TablesLaw (s.setChan ch c) := by
  refine h.next rfl h.job (fun d => ?_) h.data
  by_cases e : d = ch
  · subst e; rw [State.chan_setChan_self]; exact ok
  · rw [State.chan_setChan_ne _ _ e]; exact h.settingsOk d

theorem TablesLaw.tablesTurn {s : State} {t : Tables} (h : TablesLaw s) (turn : TablesTurn s t) :
    TablesLaw (s.withTables t) := by
  cases turn with
  | layout i e valid =>
    refine { h with layouts := fun k l entry => ?_ }
    change (s.tables.layouts.set i e)[k] = some l at entry
    by_cases same : (i : Nat) = k
    · rw [Fin.getElem_fin, Vector.getElem_set, if_pos same] at entry; exact valid l entry
    · rw [Fin.getElem_fin, Vector.getElem_set, if_neg same] at entry; exact h.layouts k l entry
  | patch i e valid =>
    refine { h with patches := fun k p entry => ?_ }
    change (s.tables.patches.set i e)[k] = some p at entry
    by_cases same : (i : Nat) = k
    · rw [Fin.getElem_fin, Vector.getElem_set, if_pos same] at entry; exact valid p entry
    · rw [Fin.getElem_fin, Vector.getElem_set, if_neg same] at entry; exact h.patches k p entry
  | patchesCleared =>
    refine { h with patches := fun k p entry => ?_ }
    change (Vector.replicate 32 none : Vector (Option Patch) 32)[k] = some p at entry
    simp at entry
  | precompD p valid => exact { h with precompD := valid }
  | precompH p valid => exact { h with precompH := valid }

/-- A JOB-SET that can be read gives a job within the ranges of R41. -/
theorem readJob_valid {tables : Tables} {body : List Byte} {j : Job} (h : readJob tables body = .ok j) :
    j.valid = true := by
  unfold readJob at h
  split at h
  · split at h
    · split at h
      · cases h
      · split at h
        · cases h
        next reach =>
          cases h
          have steps : num1 body 2 = 1 ∨ num1 body 2 = 2 := by omega
          have quota := num2_lt body 5
          have timeout := num1_lt body 10
          have step : (num1 body 2 == 1 || num1 body 2 == 2) = true := by simpa using steps
          simp only [Job.valid, step, Bool.true_and, Bool.and_eq_true]
          exact ⟨⟨⟨⟨decide_eq_true (by omega), decide_eq_true (by omega)⟩, decide_eq_true (by omega)⟩,
            decide_eq_true (by omega)⟩, decide_eq_true (by omega)⟩
    · cases h
  · cases h

theorem Channel.SettingsOk.ended {c : Channel} (h : c.SettingsOk) (ch : ChannelNo) (e : CopyEnd) (policy : SerialPolicy)
    (now : Nat) : (c.ended ch e policy now).SettingsOk := h.applyPending

theorem Failing.settingsOk {now : Nat} {c d : Channel} (h : Failing now c d) (ok : c.SettingsOk) : d.SettingsOk := by
  cases h with
  | asItIs | mediaGone | attempt => exact ok
  | disabled => exact ok.setEnabled false

/-- The end of a copy writes to a data area only the sectors of the segment it wakes, and those lie within it (R27, R37). -/
theorem State.endCopy_dataOk {s : State} (h : TablesLaw s) (ch : ChannelNo) (e : CopyEnd) (i : Fin 8) :
    dataOk (s.endCopy ch e).store.slots[i].data = true := by
  have only : dataOk (s.endCopyOnly ch e).store.slots[i].data = true := by
    rw [State.endCopyOnly_data]; exact h.data i
  unfold State.endCopy
  rw [State.syncStarvation_store]
  rcases (s.endCopyOnly ch e).closeIfOver_cases s with ⟨same, -⟩ | ⟨-, -, closed⟩
  · rw [same]; exact only
  · rw [closed, State.closePass_data]
    unfold State.wakeSegment State.takeWoken
    split
    · exact only
    next f _ =>
      split
      next waits =>
        dsimp only
        split
        · split
          · exact only
          next k _ =>
            generalize hr : State.allocate _ k _ = r
            have layout : r.layout = s.layout :=
              State.layout_congr (by subst hr; simp [State.allocate]) (by subst hr; rfl)
            have data (j : Fin 8) : r.store.slots[j].data = (s.endCopyOnly ch e).store.slots[j].data := by
              subst hr
              by_cases same : (k : Nat) = j
              · obtain rfl : k = j := Fin.ext same
                simp [State.allocate, Slot.allocated]
              · simp [State.allocate, same]
            have fate : s.segmentFate f.body = .waits := by
              have := waits.1
              simp only [State.segmentWaits, Bool.and_eq_true, beq_iff_eq] at this
              exact this.2
            have fits : num1 f.body 2 * r.layout.size + (f.body.drop 4).length ≤ Config.slotBytes := by
              rcases s.segmentFate_cases f.body with stale | ⟨_, refused⟩ | ⟨-, -, reason, -⟩
              · rw [fate] at stale; cases stale
              · rw [fate] at refused; cases refused
              · rw [layout]; exact Layout.segment_fits reason h.layout_area
            rw [State.dropHead_store, State.acceptSegment_data]
            split
            · refine dataOk_memWrite ?_ fits
              rw [data, State.endCopyOnly_data]
              exact h.data k
            · rw [data]; exact only
        · exact only
      next => exact only

theorem TablesLaw.endCopy {s : State} (h : TablesLaw s) (ch : ChannelNo) (e : CopyEnd) : TablesLaw (s.endCopy ch e) := by
  refine h.next (s.endCopy_tables ch e) ?_ (fun d => ?_) (State.endCopy_dataOk h ch e)
  · rw [(s.endCopy_ended ch e).job.1]; exact h.job
  · by_cases same : d = ch
    · subst same; rw [State.endCopy_chan_self]; exact (h.settingsOk d).ended _ _ _ _
    · rw [State.endCopy_chan_ne _ _ same]; exact h.settingsOk d

theorem TablesLaw.acceptSegment {s : State} (h : TablesLaw s) (i : Fin 8) {body : List Byte}
    (fits : s.layout.segmentReason body = none) : TablesLaw (s.acceptSegment i body) := by
  obtain ⟨-, -, -, tables, -, -, timer, control⟩ := s.acceptSegment_fields i body
  refine h.next tables (by rw [control]; exact h.job) (fun ch => ?_) (fun j => ?_)
  · rw [State.acceptSegment_chan]
    split <;> exact h.settingsOk ch
  · rw [State.acceptSegment_data]
    split
    · exact dataOk_memWrite (h.data i) (Layout.segment_fits fits h.layout_area)
    · exact h.data j

theorem TablesLaw.enroll {s : State} (h : TablesLaw s) (ch : ChannelNo) : TablesLaw (s.enroll ch) := by
  have enrolled (copy : CopyRecord) (density : Density) (head : Nat) :
      ((s.chan ch).enroll copy density head s.now).SettingsOk := by
    unfold Channel.enroll Channel.enterRecalibrating
    dsimp only
    split
    · exact (Channel.seekOn_sameCopy _ _ _ _).settings (h.settingsOk ch)
    · exact h.settingsOk ch
  have set := h.setChan ch (enrolled (CopyRecord.enrolled s.control.pass.tag s.control.copyNumber s.serialTaken)
    s.layout.density (s.layout.headOf 0))
  exact ⟨set.layouts, set.patches, set.precompD, set.precompH, set.job, set.active, set.waiting, set.data⟩

theorem State.freed_data (s : State) (i : Fin 8) : s.store.cleared.slots[i].data = s.store.slots[i].data := by
  simp [TrackStore.cleared, Slot.freed]

/-- Every operation keeps the law of the tables. -/
theorem keptTablesLaw : Kept TablesLaw where
  clock n h _ := h.next rfl h.job h.settingsOk h.data
  link h turn := by
    have only := turn.onlyLink
    refine h.next only.tables (by rw [only.control]; exact h.job) (fun ch => ?_) (by rw [only.store]; exact h.data)
    rw [State.chan, only.channels]
    exact h.settingsOk ch
  tables h turn := h.tablesTurn turn
  append _ h _ _ := h.next rfl h.job h.settingsOk h.data
  clear h := h.next rfl h.job h.settingsOk h.data
  move {s ch _} h moved := h.setChan ch (moved.sameCopy.settings (h.settingsOk ch))
  fails {s ch _} _ _ h _ failing := (h.setChan ch (failing.settingsOk (h.settingsOk ch))).endCopy ch _
  finishes {s ch a} h _ _ := by
    have released (sl : Slot) : (sl.release ch).data = sl.data := by
      unfold Slot.release
      split
      · split <;> rfl
      · rfl
    have done : TablesLaw (s.trackDone ch a) := by
      have set := h.setChan ch (c := (s.trackDone ch a).chan ch)
        (by rw [State.trackDone, State.chan_setChan_self]; exact h.settingsOk ch)
      refine set.next rfl set.job (fun d => ?_) (fun j => ?_)
      · by_cases same : d = ch
        · subst same
          have := set.settingsOk d
          rwa [State.chan_setChan_self] at this
        · rw [State.trackDone, State.chan_setChan_ne _ _ same]; exact h.settingsOk d
      · have kept : (s.trackDone ch a).store.slots[j].data = s.store.slots[j].data := by
          rw [State.trackDone_slot]
          split
          · exact released _
          · rfl
        rw [kept]
        exact h.data j
    rw [State.finishTrack_eq]
    split
    · exact done.endCopy ch _
    · refine done.setChan ch ((Channel.seekOn_sameCopy _ _ _ _).settings ?_)
      exact done.settingsOk ch
  settles {s ch} h _ _ := by
    have set := h.setChan ch (c := ({ s.chan ch with
      settleTimer := none, activePrecomp := (s.chan ch).precompValue s.precomp, attempts := 0 } : Channel).enter
      (if s.trackIsReady ((s.chan ch).cursor.getD 0) then .waitingIndex else .waitingTrack) s.now) (h.settingsOk ch)
    exact set.next rfl set.job set.settingsOk set.data
  placed {s ch _ _} h _ _ := by
    have left : TablesLaw (s.leaveEnrolled ch) := h.next rfl h.job h.settingsOk h.data
    exact left.setChan ch ((Channel.afterResult_onward _ ch s.now _).settings (h.settingsOk ch))
  job h _ read := h.next rfl (fun j e => Option.some.inj e ▸ readJob_valid read) h.settingsOk h.data
  begins {s tag} zero h _ := by
    obtain ⟨u, only, e⟩ := s.beginPass_onlyLink tag zero
    have dealt : TablesLaw (s.dealt tag zero).state := by
      refine State.dealt_induct ?opens (fun u ch h _ => ?spins) (fun u ch h _ _ => h.enroll ch)
      case opens =>
        refine h.next rfl h.job (fun ch => ?_) h.data
        have opened : (s.openPass tag zero).chan ch = ((s.chan ch).modLines fun l =>
            { l with trackZero := setHas zero ch }) := by
          simp [State.openPass, State.chan, State.mapChans]
        rw [opened]
        exact h.settingsOk ch
      case spins => exact h.setChan ch ((Channel.enterSpinup_onward _ ch u.now).settings (h.settingsOk ch))
    have law : TablesLaw u := by
      refine dealt.next only.tables (by rw [only.control]; exact dealt.job) (fun ch => ?_)
        (by rw [only.store]; exact dealt.data)
      rw [State.chan, only.channels]
      exact dealt.settingsOk ch
    rw [e]
    unfold State.closeIfEmpty
    split
    · exact law.next rfl law.job law.settingsOk law.data
    · exact law
  aborts {s} reason close h _ := by
    refine State.abortPass_induct (Q := TablesLaw) h (fun u ch law _ => ?ends) (fun u law => ?closes)
    case ends =>
      have set := law.setChan ch ((law.settingsOk ch).ended ch (.failed reason (some .reject)) u.job.serialPolicy u.now)
      refine set.next rfl ?_ set.settingsOk fun i => ?_
      · rw [State.endCopyOnly_control, PassControl.takeEnd_job]; exact law.job
      · rw [State.endCopyOnly_data]; exact law.data i
    case closes => exact law.next rfl law.job law.settingsOk fun i => by rw [State.closePass_data]; exact law.data i
  closes h _ := h.next rfl h.job h.settingsOk h.data
  written {s body i} h fate := by
    rcases s.segmentFate_cases body with stale | ⟨_, refused⟩ | ⟨-, -, fits, -⟩
    · rw [fate] at stale; cases stale
    · rw [fate] at refused; cases refused
    · exact h.acceptSegment i fits
  allotted {s body i} h fate := by
    rcases s.segmentFate_cases body with stale | ⟨_, refused⟩ | ⟨-, -, fits, -⟩
    · rw [fate] at stale; cases stale
    · rw [fate] at refused; cases refused
    · have allotted : TablesLaw (s.allocate i (num1 body 1)) := by
        refine h.next rfl h.job h.settingsOk fun j => ?_
        by_cases same : (i : Nat) = j
        · obtain rfl : i = j := Fin.ext same
          simpa [State.allocate, Slot.allocated] using h.data i
        · simpa [State.allocate, same] using h.data j
      exact allotted.acceptSegment i fits
  partReset {s} h := by
    have only := State.place_onlyLink
      (({ s with
          link := s.link.partReset
          reports := s.queueKept
          control := PassControl.initial
          store := s.store.cleared
          pool := s.boundSerials ++ s.pool } : State).mapChans fun ch c => c.partReset ch s.now)
      (.resetDone (setCard s.control.pass.enrolled) s.boundSerials.length)
    refine h.next only.tables (by unfold State.partReset; rw [only.control]; exact nofun) (fun ch => ?_) fun i => ?_
    · have reset : s.partReset.chan ch = (s.chan ch).partReset ch s.now := by
        unfold State.partReset
        rw [State.chan, only.channels]
        simp [State.mapChans, State.chan]
      rw [reset]
      exact (Channel.goOn_onward _ ch s.now).settings (Channel.SettingsOk.cleared (c := (s.chan ch).dropAttempt)
        (h.settingsOk ch) s.now)
    · unfold State.partReset
      rw [only.store]
      exact (s.freed_data i).symm ▸ h.data i
  powerOn {s t} a b h e := by
    cases e
    have zero : Precomp.initial.outer ≤ 15 ∧ Precomp.initial.inner ≤ 15 := by decide
    refine ⟨fun i l entry => ?_, fun i p entry => ?_, zero, zero, nofun, fun ch => ?_,
      fun ch r pending => ?_, fun i => ?_⟩
    · simp [State.reset] at entry
    · simp [State.reset] at entry
    · simp [State.chan, Channel.powerOn, Channel.initial]
      decide
    · simp [State.chan, Channel.powerOn, Channel.initial] at pending
    · exact (s.freed_data i).symm ▸ h.data i

/-- Settles O5: each operation that the commands are made of keeps the law. -/
theorem stepKeepsTablesLaw : Obligations.StepKeepsTablesLaw := fun _ _ h e =>
  keptTablesLaw.step (fun _ h => h.next rfl h.job h.settingsOk h.data) h e

end Sys2Proof.Machine
end

section
/-!
The law of the Link Port and the Report Queue (R21, R164, R167, R168, R173, R175): the frame buffer with the frame in
reception in one of two shapes, and every step keeps it.
-/

namespace Sys2Proof.Machine

/-- The frame buffer with the reception in progress: all entries READY, or the youngest RECEIVING the frame in reception
(R164, R168, R169). -/
inductive BufferOk : List Frame → Option Reception → Prop
  | settled {frames : List Frame} {reception : Option Reception} (short : frames.length ≤ 2)
    (ready : ∀ f ∈ frames, f.isReady = true) (bodies : ∀ f ∈ frames, f.body.length ≤ 4112)
    (elsewhere : ∀ r, reception = some r → r.destination ≠ .entry) : BufferOk frames reception
  | taking {older : List Frame} {f : Frame} {r : Reception} (short : older.length ≤ 1)
    (ready : ∀ g ∈ older, g.isReady = true) (bodies : ∀ g ∈ older, g.body.length ≤ 4112)
    (receiving : f.state = .receiving) (entry : r.destination = .entry)
    (length : f.body.length = min (r.count - 3) r.length) (bound : 3 ≤ r.count → r.length ≤ 4112) :
    BufferOk (older ++ [f]) (some r)

theorem Frame.isReady_of_receiving {f : Frame} (h : f.state = .receiving) : f.isReady = false := by
  rw [Frame.isReady, h]; rfl

theorem Frame.state_of_isReady {f : Frame} (h : f.isReady = true) : f.state = .ready := by
  simpa [Frame.isReady] using h

theorem Frame.receiving_of_not_isReady {f : Frame} (h : f.isReady = false) : f.state = .receiving := by
  cases st : f.state with
  | receiving => rfl
  | ready => rw [Frame.isReady, st] at h; cases h

/-- The body of the entry that is RECEIVING, which is the youngest. -/
theorem receivingBody_append {s : State} {older : List Frame} {f : Frame} (frames : s.link.frames = older ++ [f])
    (ready : ∀ g ∈ older, g.isReady = true) (receiving : f.state = .receiving) : s.receivingBody = f.body := by
  have passed : older.find? (fun e => e.state == .receiving) = none :=
    List.find?_eq_none.mpr fun g hg => by rw [Frame.state_of_isReady (ready g hg)]; decide
  rw [State.receivingBody, frames, List.find?_append, passed, List.find?_singleton, receiving]
  rfl

/-- The law, in the two shapes of the buffer. -/
theorem linkLaw_iff {s : State} :
    LinkLaw s ↔ BufferOk s.link.frames s.link.reception ∧ s.link.receptionErrors ≤ 65535 ∧
      s.link.staleSegments ≤ 65535 ∧
      (s.link.transmit = .sending → ∃ r rest, s.reports = r :: rest ∧ s.link.linkOut = r.frame) ∧
      (s.link.transmit = .idle → s.link.linkOut = []) ∧ s.reports.length ≤ 32 := by
  constructor
  · intro h
    refine ⟨?_, h.errors, h.stale, h.sending, h.resting, h.reports⟩
    by_cases occupied : ∃ r, s.link.reception = some r ∧ r.destination = .entry
    · obtain ⟨r, reception, entry⟩ := occupied
      obtain ⟨f, mem, notReady⟩ := h.entry.mpr ⟨r, reception, entry⟩
      have nonempty : s.link.frames ≠ [] := List.ne_nil_of_mem mem
      have parts := List.dropLast_concat_getLast nonempty
      have youngest : f = s.link.frames.getLast nonempty := by
        rw [← parts] at mem
        rcases List.mem_append.mp mem with older | last
        · rw [h.younger f older] at notReady; cases notReady
        · exact List.mem_singleton.mp last
      rw [youngest] at notReady
      have receiving := Frame.receiving_of_not_isReady notReady
      obtain ⟨length, bound⟩ := h.length r reception entry
      rw [receivingBody_append parts.symm h.younger receiving] at length
      rw [← parts, reception]
      refine .taking ?_ h.younger (fun g hg => h.bodies g (List.dropLast_subset _ hg)) receiving entry length bound
      have short : s.link.frames.length ≤ 2 := h.frames
      rw [List.length_dropLast]
      omega
    · refine .settled h.frames (fun f mem => ?_) h.bodies fun r reception entry => occupied ⟨r, reception, entry⟩
      exact eq_true_of_ne_false fun notReady => occupied (h.entry.mp ⟨f, mem, notReady⟩)
  · rintro ⟨buffer, errors, stale, sending, resting, reports⟩
    generalize frames_eq : s.link.frames = frames at buffer
    generalize reception_eq : s.link.reception = reception at buffer
    have short : frames.length ≤ 2 := by
      cases buffer with
      | settled short => exact short
      | taking short => rw [List.length_append, List.length_singleton]; omega
    have hold : s.hold = true ↔ s.link.frames.length = 2 := by
      have two : Config.frameEntries = 2 := rfl
      rw [State.hold, decide_eq_true_iff, frames_eq, two]
      omega
    cases buffer with
    | settled _ ready bodies elsewhere =>
      refine ⟨frames_eq ▸ short, hold, fun f mem => ?_, ⟨fun ⟨f, mem, notReady⟩ => ?_, fun ⟨r, e, entry⟩ => ?_⟩,
        frames_eq ▸ bodies, fun r e entry => ?_, errors, stale, sending, resting, reports⟩
      · exact ready f (frames_eq ▸ List.dropLast_subset _ mem)
      · rw [ready f (frames_eq ▸ mem)] at notReady; cases notReady
      · exact absurd entry (elsewhere r (reception_eq ▸ e))
      · exact absurd entry (elsewhere r (reception_eq ▸ e))
    | @taking older f r few ready bodies receiving entry length bound =>
      refine ⟨frames_eq ▸ short, hold, fun g mem => ?_, iff_of_true ⟨f, ?_, Frame.isReady_of_receiving receiving⟩
        ⟨r, reception_eq, entry⟩, fun g mem => ?_, fun q e _ => ?_, errors, stale, sending, resting, reports⟩
      · rw [frames_eq, List.dropLast_concat] at mem; exact ready g mem
      · rw [frames_eq]; simp
      · rw [frames_eq] at mem
        have most : Config.maxBody = 4112 := rfl
        rcases List.mem_append.mp mem with mem | mem
        · exact bodies g mem
        · rw [List.mem_singleton.mp mem, length, most]
          omega
      · obtain rfl : r = q := Option.some.inj (reception_eq.symm.trans e)
        rw [receivingBody_append frames_eq ready receiving]
        exact ⟨length, bound⟩

namespace BufferOk

variable {frames : List Frame} {reception : Option Reception} {r q : Reception}

theorem length_le (h : BufferOk frames reception) : frames.length ≤ 2 := by
  cases h with
  | settled short => exact short
  | taking short => rw [List.length_append, List.length_singleton]; omega

/-- The reception goes on without a byte for the body. -/
theorem goes_on (h : BufferOk frames (some r)) (destination : q.destination = r.destination)
    (length : min (q.count - 3) q.length = min (r.count - 3) r.length)
    (bound : (3 ≤ r.count → r.length ≤ 4112) → 3 ≤ q.count → q.length ≤ 4112) : BufferOk frames (some q) := by
  cases h with
  | settled short ready bodies elsewhere =>
    refine .settled short ready bodies fun p e => ?_
    cases e
    exact destination ▸ elsewhere r rfl
  | taking short ready bodies receiving entry len lim =>
    exact .taking short ready bodies receiving (destination.trans entry) (len.trans length.symm) (bound lim)

/-- Every frame but the youngest is READY, so a change of the one that is RECEIVING is one of the youngest. -/
theorem map_receiving {older : List Frame} {f : Frame} (ready : ∀ g ∈ older, g.isReady = true)
    (receiving : f.state = .receiving) (change : Frame → Frame) :
    ((older ++ [f]).map fun e => if e.state = .receiving then change e else e) = older ++ [change f] := by
  have same : (older.map fun e => if e.state = .receiving then change e else e) = older := by
    refine (List.map_congr_left fun g mem => ?_).trans (List.map_id older)
    rw [Frame.state_of_isReady (ready g mem)]
    rfl
  rw [List.map_append, same, List.map_singleton, if_pos receiving]

/-- The reception of a frame without an entry goes on. -/
theorem goes_elsewhere (h : BufferOk frames (some r)) (elsewhere : r.destination ≠ .entry)
    (destination : q.destination = r.destination) : BufferOk frames (some q) := by
  cases h with
  | settled short ready bodies =>
    refine .settled short ready bodies fun p e => ?_
    cases e
    exact destination ▸ elsewhere
  | taking _ _ _ _ entry => exact absurd entry elsewhere

/-- The frame in reception changes in its entry. -/
theorem changes (h : BufferOk frames (some r)) (taken : r.destination = .entry) {change : Frame → Frame}
    (state : ∀ e, (change e).state = e.state) (destination : q.destination = r.destination)
    (length : ∀ e : Frame, e.body.length = min (r.count - 3) r.length →
      (change e).body.length = min (q.count - 3) q.length)
    (bound : (3 ≤ r.count → r.length ≤ 4112) → 3 ≤ q.count → q.length ≤ 4112) :
    BufferOk (frames.map fun e => if e.state = .receiving then change e else e) (some q) := by
  cases h with
  | settled _ _ _ elsewhere => exact absurd taken (elsewhere r rfl)
  | taking short ready bodies receiving entry len lim =>
    rw [map_receiving ready receiving]
    exact .taking short ready bodies ((state _).trans receiving) (destination.trans entry) (length _ len) (bound lim)

/-- The reception is over, and a frame with an entry has left it. -/
theorem drops (h : BufferOk frames (some r)) :
    BufferOk (frames.filter fun e => decide (e.state ≠ .receiving)) none := by
  cases h with
  | settled short ready bodies elsewhere =>
    exact .settled (Nat.le_trans (List.length_filter_le _ _) short)
      (fun f mem => ready f (List.mem_filter.mp mem).1) (fun f mem => bodies f (List.mem_filter.mp mem).1) nofun
  | taking short ready bodies receiving entry len lim =>
    have left : ∀ (older : List Frame) (f : Frame), f.state = .receiving →
        (older ++ [f]).filter (fun e => decide (e.state ≠ .receiving)) =
          older.filter fun e => decide (e.state ≠ .receiving) := by
      intro older f receiving
      simp [List.filter_append, receiving]
    rw [left _ _ receiving]
    exact .settled (Nat.le_trans (List.length_filter_le _ _) (by omega))
      (fun f mem => ready f (List.mem_filter.mp mem).1) (fun f mem => bodies f (List.mem_filter.mp mem).1) nofun

/-- The reception of a frame without an entry is over. -/
theorem forgets (h : BufferOk frames (some r)) (elsewhere : r.destination ≠ .entry) : BufferOk frames none := by
  cases h with
  | settled short ready bodies => exact .settled short ready bodies nofun
  | taking _ _ _ _ entry => exact absurd entry elsewhere

/-- The frame in reception has become READY. -/
theorem readies (h : BufferOk frames (some r)) (taken : r.destination = .entry) :
    BufferOk (frames.map fun e => if e.state = .receiving then { e with state := .ready } else e) none := by
  cases h with
  | settled _ _ _ elsewhere => exact absurd taken (elsewhere r rfl)
  | @taking older f _ short ready bodies receiving entry len lim =>
    rw [map_receiving ready receiving]
    refine .settled (by rw [List.length_append, List.length_singleton]; omega) (fun g mem => ?_) (fun g mem => ?_) nofun
    · rcases List.mem_append.mp mem with mem | mem
      · exact ready g mem
      · rw [List.mem_singleton.mp mem]; rfl
    · rcases List.mem_append.mp mem with mem | mem
      · exact bodies g mem
      · rw [List.mem_singleton.mp mem]
        show f.body.length ≤ 4112
        omega

/-- The head frame has left its entry. -/
theorem erases (h : BufferOk frames reception) : BufferOk (frames.eraseP Frame.isReady) reception := by
  cases h with
  | settled short ready bodies elsewhere =>
    exact .settled (Nat.le_trans (List.length_eraseP_le) short) (fun f mem => ready f (List.mem_of_mem_eraseP mem))
      (fun f mem => bodies f (List.mem_of_mem_eraseP mem)) elsewhere
  | @taking older f _ short ready bodies receiving entry len lim =>
    have kept : (older ++ [f]).eraseP Frame.isReady = older.eraseP Frame.isReady ++ [f] := by
      cases older with
      | nil => simp [Frame.isReady_of_receiving receiving]
      | cons g older => simp [ready g (by simp)]
    rw [kept]
    exact .taking (Nat.le_trans (List.length_eraseP_le) short) (fun g mem => ready g (List.mem_of_mem_eraseP mem))
      (fun g mem => bodies g (List.mem_of_mem_eraseP mem)) receiving entry len lim

/-- A start code begins a frame. -/
theorem begins (h : BufferOk frames none) {q : Reception} (count : q.count = 0) (length : q.length = 0)
    (destination : q.destination = if frames.length < 2 then .entry else .nothing) :
    BufferOk (if frames.length < 2 then frames ++ [⟨.receiving, 0, []⟩] else frames) (some q) := by
  cases h with
  | settled short ready bodies =>
    split
    next room =>
      rw [if_pos room] at destination
      exact .taking (by omega) ready bodies rfl destination (by rw [length]; simp) (by omega)
    next full =>
      rw [if_neg full] at destination
      refine .settled short ready bodies fun p e => ?_
      cases e
      rw [destination]
      nofun

end BufferOk

/-! ### The turns of the Link Port -/

theorem LinkLaw.buffer {s : State} (h : LinkLaw s) : BufferOk s.link.frames s.link.reception := (linkLaw_iff.mp h).1

/-- A Link Port and a Report Queue that stay. -/
theorem LinkLaw.congr {s t : State} (h : LinkLaw s) (link : t.link = s.link) (reports : t.reports = s.reports) :
    LinkLaw t := by
  rw [linkLaw_iff] at h ⊢
  rw [link, reports]
  exact h

/-- A frame buffer, a reception and counters that change in order, with the transmitter and the queue as before. -/
theorem LinkLaw.next {s t : State} (h : LinkLaw s) (buffer : BufferOk t.link.frames t.link.reception)
    (errors : t.link.receptionErrors ≤ 65535) (stale : t.link.staleSegments ≤ 65535)
    (transmit : t.link.transmit = s.link.transmit) (linkOut : t.link.linkOut = s.link.linkOut)
    (reports : t.reports = s.reports) : LinkLaw t := by
  obtain ⟨-, -, -, sending, resting, most⟩ := linkLaw_iff.mp h
  rw [linkLaw_iff, transmit, linkOut, reports]
  exact ⟨buffer, errors, stale, sending, resting, most⟩

theorem countUp_le (n : Nat) : countUp n ≤ 65535 := Nat.min_le_left _ _

theorem LinkLaw.place {s : State} (h : LinkLaw s) (r : Report) : LinkLaw (s.place r) := by
  obtain ⟨buffer, errors, stale, sending, resting, most⟩ := linkLaw_iff.mp h
  unfold State.place
  split
  next room =>
    refine linkLaw_iff.mpr ⟨buffer, errors, stale, fun sends => ?_, resting, ?_⟩
    · obtain ⟨q, rest, queue, out⟩ := sending sends
      exact ⟨q, rest ++ [r], by rw [queue]; rfl, out⟩
    · show (s.reports ++ [r]).length ≤ 32
      rw [List.length_append, List.length_singleton]
      exact room
  next => exact h

theorem LinkLaw.dropHead {s : State} (h : LinkLaw s) : LinkLaw s.dropHead :=
  h.next h.buffer.erases h.errors h.stale rfl rfl rfl

/-- The reception ends in an error, with the entry of its frame if it has one. -/
theorem LinkLaw.endInError {s : State} {r q : Reception} (h : LinkLaw s) (inFrame : s.link.reception = some r)
    (same : q.destination = r.destination) (reason : FrameErrorReason) : LinkLaw (s.endInError q reason) := by
  have buffer := h.buffer
  rw [inFrame] at buffer
  unfold State.endInError
  split
  next silent =>
    exact h.next (buffer.forgets (by rw [← same, silent]; nofun)) h.errors h.stale rfl rfl rfl
  next =>
    have counted : LinkLaw s.dropReceiving.hunt.countError :=
      h.next buffer.drops (countUp_le _) h.stale rfl rfl rfl
    exact counted.place _
  next lost =>
    have counted : LinkLaw s.hunt.countError :=
      h.next (buffer.forgets (by rw [← same, lost]; nofun)) (countUp_le _) h.stale rfl rfl rfl
    exact counted.place _

theorem LinkLaw.judgeFrame {s : State} {r q : Reception} (h : LinkLaw s) (inFrame : s.link.reception = some r)
    (same : q.destination = r.destination) (check : Check) : LinkLaw (s.judgeFrame q check) := by
  have buffer := h.buffer
  rw [inFrame] at buffer
  unfold State.judgeFrame
  split
  next silent =>
    exact h.next (buffer.forgets (by rw [← same, silent]; nofun)) h.errors h.stale rfl rfl rfl
  next => exact h.endInError inFrame same _
  next taken =>
    split
    · exact h.endInError inFrame same _
    · exact h.next (buffer.readies (same.symm.trans taken)) h.errors h.stale rfl rfl rfl

theorem LinkLaw.frameByte {s : State} {r : Reception} (h : LinkLaw s) (inFrame : s.link.reception = some r) (b : Byte)
    (bad : Bool) : LinkLaw (s.frameByte r b bad) := by
  have buffer := h.buffer
  rw [inFrame] at buffer
  have goesOn {q : Reception} (ok : BufferOk s.link.frames (some q)) : LinkLaw (s.receiving q) :=
    h.next ok h.errors h.stale rfl rfl rfl
  have changed {q : Reception} {change : Frame → Frame}
      (ok : BufferOk (s.link.frames.map fun e : Frame => if e.state = .receiving then change e else e) (some q)) :
      LinkLaw ((s.modReceiving change).receiving q) := h.next ok h.errors h.stale rfl rfl rfl
  have most : Config.maxBody = 4112 := rfl
  unfold State.frameByte
  dsimp only
  split
  next first =>
    split
    next taken =>
      exact changed (buffer.changes taken (fun _ => rfl) rfl (fun e len => by simpa [first] using len)
        (by dsimp only; omega))
    next => exact goesOn (buffer.goes_on rfl (by simp [first]) (by dsimp only; omega))
  split
  next second => exact goesOn (buffer.goes_on rfl (by simp [second]) (by dsimp only; omega))
  split
  next third =>
    split
    · exact h.endInError inFrame rfl _
    next fits => exact goesOn (buffer.goes_on rfl (by simp [third]) (by dsimp only; omega))
  split
  next inBody =>
    split
    next taken =>
      refine changed (buffer.changes taken (fun _ => rfl) rfl (fun e len => ?_) (by dsimp only; omega))
      show (e.body ++ [b]).length = min (r.count + 1 - 3) r.length
      rw [List.length_append, List.length_singleton, len]
      omega
    next elsewhere =>
      exact goesOn (buffer.goes_elsewhere elsewhere rfl)
  split
  next atCheck => exact goesOn (buffer.goes_on rfl (by dsimp only; omega) (by dsimp only; omega))
  next =>
    refine h.judgeFrame (r := r) inFrame ?_ _
    rfl

theorem LinkLaw.linkByte {s : State} (h : LinkLaw s) (b : Byte) (bad : Bool) : LinkLaw (s.linkByte b bad) := by
  unfold State.linkByte
  split
  next hunting =>
    split
    · have buffer := h.buffer
      rw [hunting] at buffer
      refine h.next ?_ h.errors h.stale rfl rfl rfl
      have room : Config.frameEntries = 2 := rfl
      unfold State.beginFrame
      simp only [State.modLink, room]
      exact buffer.begins rfl rfl rfl
    · exact h.next h.buffer (countUp_le _) h.stale rfl rfl rfl
  next r inFrame => exact h.frameByte inFrame b bad

theorem LinkLaw.turn {s t : State} (h : LinkLaw s) (turn : LinkTurn s t) : LinkLaw t := by
  obtain ⟨buffer, errors, stale, sending, resting, most⟩ := linkLaw_iff.mp h
  cases turn with
  | byte b bad => exact h.linkByte b bad
  | truncated r inFrame => exact h.endInError inFrame rfl _
  | returnHold => exact h.next buffer errors stale rfl rfl rfl
  | transmit r rest idle queue =>
    exact linkLaw_iff.mpr ⟨buffer, errors, stale, fun _ => ⟨r, rest, queue, rfl⟩, nofun, most⟩
  | sent =>
    refine linkLaw_iff.mpr ⟨buffer, errors, stale, nofun, fun _ => rfl, ?_⟩
    show s.reports.tail.length ≤ 32
    rw [List.length_tail]
    omega
  | stale => exact h.next buffer errors (countUp_le _) rfl rfl rfl
  | counted => exact h.next buffer (Nat.zero_le _) (Nat.zero_le _) rfl rfl rfl
  | place r => exact h.place r
  | dropHead => exact h.dropHead

/-- The end of a copy may take the segment at the head, and leaves the Link Port else (R37). -/
theorem LinkLaw.endCopy {s : State} (h : LinkLaw s) (ch : ChannelNo) (e : CopyEnd) : LinkLaw (s.endCopy ch e) := by
  have closes := (s.endCopy_ended ch e).closes
  have reports := s.endCopy_reports ch e
  split at closes
  · obtain ⟨-, -, -, -, -, ⟨link, -⟩ | ⟨_, _, -, -, link, -⟩⟩ := closes
    · exact h.congr link reports
    · exact h.dropHead.congr link reports
  · obtain ⟨-, -, -, -, -, link, -⟩ := closes
    exact h.congr link reports

/-- Every block has taken its part-reset value; the answer is still to come (R172). -/
def State.blocksReset (s : State) : State :=
  State.mapChans
    { s with
      link := s.link.partReset
      reports := s.queueKept
      control := PassControl.initial
      store := s.store.cleared
      pool := s.boundSerials ++ s.pool }
    fun ch c => c.partReset ch s.now

theorem State.partReset_eq (s : State) :
    s.partReset = s.blocksReset.place (.resetDone (setCard s.control.pass.enrolled) s.boundSerials.length) := rfl

/-- Every operation keeps the law of the Link Port. -/
theorem keptLinkLaw : Kept LinkLaw where
  clock _ h _ := h.congr rfl rfl
  link h turn := h.turn turn
  tables h _ := h.congr rfl rfl
  append _ h _ _ := h.congr rfl rfl
  clear h := h.congr rfl rfl
  move h _ := h.congr rfl rfl
  fails {s ch c} _ _ h _ _ := by
    have set : LinkLaw (s.setChan ch c) := h.congr rfl rfl
    exact set.endCopy ch _
  finishes {s ch a} h _ _ := by
    have done : LinkLaw (s.trackDone ch a) := h.congr rfl rfl
    rw [State.finishTrack_eq]
    split
    · exact done.endCopy ch _
    · exact done.congr rfl rfl
  settles h _ _ := h.congr rfl rfl
  placed h _ _ := h.congr rfl rfl
  job h _ _ := h.congr rfl rfl
  begins {s tag} zero h _ := by
    have fields := s.dealt_fields tag zero
    have dealt : LinkLaw (s.dealt tag zero).state := h.congr fields.link fields.reports
    have closes {u : State} (law : LinkLaw u) : LinkLaw u.closeIfEmpty := by
      unfold State.closeIfEmpty
      split
      · exact law.congr rfl rfl
      · exact law
    rw [State.beginPass_eq]
    generalize s.dealt tag zero = d at dealt ⊢
    have opened := dealt.place (.passOpened tag d.enrolled d.notEnrolled)
    cases d.low with
    | none => exact closes opened
    | some n => exact closes (opened.place (.poolLow n))
  aborts {s} reason close h _ := by
    obtain ⟨-, -, -, link, reports, -⟩ := (s.abortPass_ended reason close).rest
    exact h.congr link reports
  closes h _ := h.congr rfl rfl
  written h _ := by
    obtain ⟨-, -, link, -, -, reports, -⟩ := State.acceptSegment_fields _ _ _
    exact h.congr link reports
  allotted h _ := by
    obtain ⟨-, -, link, -, -, reports, -⟩ := State.acceptSegment_fields _ _ _
    exact h.congr link reports
  partReset {s} h := by
    have blocks : LinkLaw s.blocksReset := by
      refine linkLaw_iff.mpr ⟨.settled (frames := []) (Nat.zero_le _) nofun nofun ?_, Nat.zero_le 65535,
        Nat.zero_le 65535, fun sends => ?_, h.resting, ?_⟩
      · intro r e
        obtain ⟨q, -, rfl⟩ := Option.map_eq_some_iff.mp e
        nofun
      · have sending : s.link.transmit = .sending := sends
        obtain ⟨r, rest, queue, out⟩ := h.sending sending
        refine ⟨r, [], ?_, out⟩
        show s.queueKept = [r]
        rw [State.queueKept, sending, queue]
        rfl
      · show s.queueKept.length ≤ 32
        unfold State.queueKept
        split
        · exact Nat.zero_le _
        · rw [List.length_take]; omega
    rw [State.partReset_eq]
    exact blocks.place _
  powerOn a b h e := by
    cases e
    exact linkLaw_iff.mpr ⟨.settled (Nat.zero_le _) nofun nofun nofun, Nat.zero_le _, Nat.zero_le _, nofun, fun _ => rfl,
      Nat.zero_le _⟩

/-- Settles O6: each operation that the commands are made of keeps the law. -/
theorem stepKeepsLinkLaw : Obligations.StepKeepsLinkLaw := fun _ _ h e =>
  keptLinkLaw.step (fun _ h => h.congr rfl rfl) h e

end Sys2Proof.Machine
end

section
/-!
The law of the Serial Pool (R125, R126): a serial is in the queue or bound to a copy, and every step keeps the count of both
within 64.
-/

namespace Sys2Proof.Machine

/-- The bound count, channel by channel. -/
theorem State.boundCount_eq (s : State) : s.boundCount = channelsUp.countP fun ch => (s.chan ch).bound.isSome := by
  rw [State.boundCount, toList_eq_map_channelsUp, List.countP_map]
  rfl

theorem State.boundCount_congr {s t : State} (bound : ∀ ch, (t.chan ch).bound = (s.chan ch).bound) :
    t.boundCount = s.boundCount := by
  rw [State.boundCount_eq, State.boundCount_eq]
  exact List.countP_congr fun ch _ => by rw [bound]

/-- The replacement of a channel moves the bound count with what the channel has bound. -/
theorem State.boundCount_set {s t : State} {ch : ChannelNo} {c : Channel} (channels : t.channels = s.channels.set ch c) :
    t.boundCount + (s.chan ch).bound.isSome.toNat = s.boundCount + c.bound.isSome.toNat := by
  have member : s.chan ch ∈ s.channels.toList := by simp [State.chan]
  have count : (s.chan ch).bound.isSome = true → 0 < s.boundCount := fun held =>
    List.countP_pos_iff.mpr ⟨_, member, held⟩
  have inside : (ch : Nat) < s.channels.toList.length := by simp
  have entry : s.channels.toList[(ch : Nat)]'inside = s.chan ch := by simp [State.chan]
  unfold State.boundCount at count ⊢
  rw [channels, Vector.toList_set, List.countP_set inside, entry]
  cases held : (s.chan ch).bound.isSome with
  | false => cases c.bound.isSome <;> simp
  | true =>
    have := count held
    cases c.bound.isSome
    · simp only [Bool.toNat_true, Bool.toNat_false, if_true, Bool.false_eq_true, if_false]
      omega
    · simp only [Bool.toNat_true, if_true]
      omega

/-- The serials that are bound at the moment are as many as the bound count says. -/
theorem State.length_boundSerials (s : State) : s.boundSerials.length = s.boundCount := by
  unfold State.boundSerials State.boundCount
  generalize s.channels.toList = l
  induction l with
  | nil => rfl
  | cons c l ih =>
    rw [List.countP_cons]
    cases held : c.bound with
    | none => rw [List.filterMap_cons_none held, ih]; simp
    | some v => rw [List.filterMap_cons_some held, List.length_cons, ih]; simp

theorem State.mem_boundSerials {s : State} {v : Serial} (h : v ∈ s.boundSerials) : ∃ ch, (s.chan ch).bound = some v := by
  obtain ⟨c, member, held⟩ := List.mem_filterMap.mp h
  rw [toList_eq_map_channelsUp] at member
  obtain ⟨ch, -, rfl⟩ := List.mem_map.mp member
  exact ⟨ch, held⟩

/-- A copy whose end is decided has its serial bound no more. -/
theorem Channel.ended_bound (c : Channel) (ch : ChannelNo) (e : CopyEnd) (policy : SerialPolicy) (now : Nat) :
    (c.ended ch e policy now).bound = none := by
  show (if (Option.map _ _).isNone = true then (c.copy.getD CopyRecord.blank).serial else none) = none
  cases (c.copy.getD CopyRecord.blank).serial <;> rfl

theorem Channel.bound_of_no_copy {c : Channel} (h : c.copy = none) : c.bound = none := by rw [bound, h]; rfl

/-- Recalibrating and seeking leave the copy record. -/
theorem Channel.seekOn_copy (c : Channel) (target head now : Nat) : (c.seekOn target head now).copy = c.copy := by
  unfold seekOn
  split
  · rfl
  · split
    · rfl
    · split <;> rfl

theorem Channel.enroll_copy (c : Channel) (copy : CopyRecord) (density : Density) (head now : Nat) :
    (c.enroll copy density head now).copy = some copy := by
  unfold enroll enterRecalibrating
  dsimp only
  split
  · exact Channel.seekOn_copy _ _ _ _
  · rfl

namespace PoolLaw

variable {s t : State}

/-- A queue and bound serials that stay. -/
theorem congr (h : PoolLaw s) (pool : t.pool = s.pool) (bound : ∀ ch, (t.chan ch).bound = (s.chan ch).bound) :
    PoolLaw t :=
  ⟨by rw [pool, State.boundCount_congr bound]; exact h.capacity, by rw [pool]; exact h.queue,
    fun ch v => by rw [bound]; exact h.bound ch v⟩

/-- One channel and the queue change, and together hold no more than before. -/
theorem set (h : PoolLaw s) {ch : ChannelNo} {c : Channel} (channels : t.channels = s.channels.set ch c)
    (count : t.pool.length + c.bound.isSome.toNat ≤ s.pool.length + (s.chan ch).bound.isSome.toNat)
    (queue : ∀ v ∈ t.pool, 1 ≤ v.length ∧ v.length ≤ 16) (bound : ∀ v, c.bound = some v → 1 ≤ v.length ∧ v.length ≤ 16) :
    PoolLaw t := by
  have moved := State.boundCount_set channels
  have capacity := h.capacity
  refine ⟨by omega, queue, fun d v held => ?_⟩
  have chan : t.chan d = (s.setChan ch c).chan d := by rw [State.chan, State.chan, channels]; rfl
  rw [chan] at held
  by_cases e : d = ch
  · subst e; rw [State.chan_setChan_self] at held; exact bound v held
  · rw [State.chan_setChan_ne _ _ e] at held; exact h.bound d v held

/-- One channel changes and keeps what it has bound. -/
theorem setChan (h : PoolLaw s) (ch : ChannelNo) {c : Channel} (same : c.bound = (s.chan ch).bound) :
    PoolLaw (s.setChan ch c) :=
  h.set rfl (by rw [same]; exact Nat.le_refl _) h.queue fun v held => h.bound ch v (same ▸ held)

/-- The serial of a copy that ends leaves the copy, for the queue's head or for good (R130). -/
theorem ends (h : PoolLaw s) {ch : ChannelNo} {e : CopyEnd}
    (pool : t.pool = poolAfterEnd s.pool (s.chan ch).bound (e.disposition s.job.serialPolicy))
    (channels : t.channels = s.channels.set ch ((s.chan ch).ended ch e s.job.serialPolicy s.now)) : PoolLaw t := by
  have none := (s.chan ch).ended_bound ch e s.job.serialPolicy s.now
  refine h.set channels ?_ ?_ (by rw [none]; nofun)
  · rw [none, pool]
    unfold poolAfterEnd
    split
    next v held _ => rw [held]; exact Nat.le_refl _
    next => simp
  · rw [pool]
    unfold poolAfterEnd
    split
    next v held _ => exact List.forall_mem_cons.mpr ⟨h.bound ch v held, h.queue⟩
    next => exact h.queue

theorem endCopy (h : PoolLaw s) (ch : ChannelNo) (e : CopyEnd) : PoolLaw (s.endCopy ch e) :=
  h.ends (s.endCopy_pool ch e) (s.endCopy_fields ch e).2.2.2.2.2

/-- An enrollment takes its serial from a queue that holds one (R47, R48). -/
theorem enroll (h : PoolLaw s) (ch : ChannelNo) (free : s.notEnrolled (s.chan ch) = none) : PoolLaw (s.enroll ch) := by
  have stocked : s.tables.needSerials = true → s.pool ≠ [] := by
    intro needed empty
    unfold State.notEnrolled at free
    rw [if_pos (show s.tables.needSerials ∧ s.pool = [] from ⟨needed, empty⟩)] at free
    split at free
    · cases free
    · split at free <;> cases free
  have taken : ((s.chan ch).enroll (CopyRecord.enrolled s.control.pass.tag s.control.copyNumber s.serialTaken)
      s.layout.density (s.layout.headOf 0) s.now).bound = s.serialTaken := by
    rw [Channel.bound, Channel.enroll_copy]
    rfl
  refine h.set rfl ?_ (fun v member => ?_) fun v held => ?_
  · rw [taken]
    unfold State.serialTaken State.enroll
    by_cases needed : s.tables.needSerials = true
    · obtain ⟨v, rest, pool⟩ := List.exists_cons_of_ne_nil (stocked needed)
      simp [needed, pool]
    · simp [needed]
  · refine h.queue v ?_
    unfold State.enroll at member
    dsimp only at member
    split at member
    · exact List.mem_of_mem_tail member
    · exact member
  · rw [taken] at held
    unfold State.serialTaken at held
    split at held
    · exact h.queue v (List.mem_of_head? held)
    · cases held

end PoolLaw

theorem Failing.bound {now : Nat} {c d : Channel} (h : Failing now c d) : d.bound = c.bound := by
  cases h with
  | asItIs | disabled | mediaGone => rfl
  | attempt st detail => exact (c.attemptLost_sameCopy detail now st).bound

/-- A finished track leaves what the copy has bound. -/
theorem State.trackDone_bound (s : State) (ch d : ChannelNo) (a : Attempt) :
    ((s.trackDone ch a).chan d).bound = (s.chan d).bound := by
  by_cases e : d = ch
  · subst e
    rw [State.trackDone, State.chan_setChan_self]
    exact Channel.bound_modCopy (s.chan d) _ fun _ => ⟨rfl, rfl⟩
  · rw [State.trackDone, State.chan_setChan_ne _ _ e]
    rfl

/-- Every operation keeps the law of the pool. -/
theorem keptPoolLaw : Kept PoolLaw where
  clock _ h _ := h.congr rfl fun _ => rfl
  link h turn := h.congr turn.onlyLink.pool fun ch => by rw [State.chan, turn.onlyLink.channels]; rfl
  tables h _ := h.congr rfl fun _ => rfl
  append {s} v h len room := by
    refine ⟨?_, fun w member => ?_, h.bound⟩
    · show (s.pool ++ [v]).length + s.boundCount ≤ Config.poolSize
      rw [List.length_append, List.length_singleton]
      omega
    · rcases List.mem_append.mp member with member | member
      · exact h.queue w member
      · rw [List.mem_singleton.mp member]; exact len
  clear h := ⟨Nat.le_trans (Nat.add_le_add_right (Nat.zero_le _) _) h.capacity, nofun, h.bound⟩
  move {s ch _} h moved := h.setChan ch moved.sameCopy.bound
  fails {s ch _} _ _ h _ failing := (h.setChan ch failing.bound).endCopy ch _
  finishes {s ch a} h _ _ := by
    have done : PoolLaw (s.trackDone ch a) := h.congr rfl fun d => s.trackDone_bound ch d a
    rw [State.finishTrack_eq]
    split
    · exact done.endCopy ch _
    · exact done.setChan ch (Channel.bound_congr (Channel.seekOn_copy _ _ _ _))
  settles {s ch} h _ _ := by
    have set := h.setChan ch (c := ({ s.chan ch with
      settleTimer := none, activePrecomp := (s.chan ch).precompValue s.precomp, attempts := 0 } : Channel).enter
      (if s.trackIsReady ((s.chan ch).cursor.getD 0) then .waitingIndex else .waitingTrack) s.now) rfl
    exact set.congr rfl fun _ => rfl
  placed {s ch _ rest} h _ _ := by
    have gone : (({ (s.chan ch).handedOver rest with copy := none } : Channel).afterResult ch
        ((s.chan ch).copy.bind (·.sort)) s.now).bound = none :=
      Channel.bound_of_no_copy (Channel.afterResult_onward _ ch s.now _).copy
    refine h.set (t := s.resultPlaced ch rest) rfl ?_ h.queue (by rw [gone]; nofun)
    rw [gone]
    exact Nat.add_le_add_left (Nat.zero_le _) _
  job h _ _ := h.congr rfl fun _ => rfl
  begins {s tag} zero h _ := by
    obtain ⟨u, only, e⟩ := s.beginPass_onlyLink tag zero
    have dealt : PoolLaw (s.dealt tag zero).state := by
      refine State.dealt_induct ?opens (fun u ch h _ => ?spins) fun u ch h _ free => h.enroll ch free
      case opens => exact h.congr rfl fun ch => by simp [State.openPass, State.chan, State.mapChans, Channel.bound]
      case spins => exact h.setChan ch (Channel.bound_congr (Channel.enterSpinup_onward _ ch u.now).copy)
    have law : PoolLaw u := dealt.congr only.pool fun ch => by rw [State.chan, only.channels]; rfl
    rw [e]
    unfold State.closeIfEmpty
    split
    · exact law.congr rfl fun _ => rfl
    · exact law
  aborts _ _ h _ := State.abortPass_induct (Q := PoolLaw) h (fun _ _ law _ => law.ends rfl rfl) fun _ law =>
    law.congr rfl fun _ => rfl
  closes h _ := h.congr rfl fun _ => rfl
  written {s body i} h _ := by
    obtain ⟨-, -, -, -, pool, -⟩ := s.acceptSegment_fields i body
    exact h.congr pool fun ch => by rw [State.acceptSegment_chan]; split <;> rfl
  allotted {s body i} h _ := by
    obtain ⟨-, -, -, -, pool, -⟩ := (s.allocate i (num1 body 1)).acceptSegment_fields i body
    exact h.congr pool fun ch => by rw [State.acceptSegment_chan]; split <;> rfl
  partReset {s} h := by
    have idle (ch : ChannelNo) : (s.blocksReset.chan ch).bound = none := by
      rw [State.blocksReset, State.chan_mapChans]
      exact Channel.bound_of_no_copy (Channel.goOn_onward _ ch s.now).copy
    have none : s.blocksReset.boundCount = 0 := by
      rw [State.boundCount_eq]
      exact List.countP_eq_zero.mpr fun ch _ => by rw [idle]; nofun
    have blocks : PoolLaw s.blocksReset := by
      refine ⟨?_, fun v member => ?_, fun ch v held => ?_⟩
      · rw [none]
        show (s.boundSerials ++ s.pool).length + 0 ≤ _
        rw [List.length_append, s.length_boundSerials, Nat.add_comm s.boundCount]
        exact h.capacity
      · rcases List.mem_append.mp member with bound | queued
        · obtain ⟨ch, held⟩ := State.mem_boundSerials bound
          exact h.bound ch v held
        · exact h.queue v queued
      · rw [idle] at held; cases held
    have only := s.blocksReset.place_onlyLink (.resetDone (setCard s.control.pass.enrolled) s.boundSerials.length)
    rw [State.partReset_eq]
    exact blocks.congr only.pool fun ch => by rw [State.chan, only.channels]; rfl
  powerOn {s t} a b h e := by
    cases e
    have idle (ch : ChannelNo) : ((Vector.ofFn fun i => s.channels[i].powerOn : Vector Channel 8)[ch]).bound = none := by
      simp [Channel.powerOn, Channel.initial, Channel.bound]
    refine ⟨?_, nofun, fun ch v held => by rw [State.chan, idle] at held; cases held⟩
    rw [State.boundCount_eq, List.countP_eq_zero.mpr fun ch _ => by rw [State.chan, idle]; nofun]
    exact Nat.zero_le _

/-- Settles O7: each operation that the commands are made of keeps the law. -/
theorem stepKeepsPoolLaw : Obligations.StepKeepsPoolLaw := fun _ _ h e =>
  keptPoolLaw.step (fun _ h => h.congr rfl fun _ => rfl) h e

end Sys2Proof.Machine
end

section
/-!
The law of the Pass Controller (R44, R45, R50 to R53, R56, R61), the law of the quota among it: every step keeps it.
-/

namespace Sys2Proof.Machine

/-- A channel that the Pass Controller sees as before. -/
structure Channel.Stays (c d : Channel) : Prop where
  copy      : d.copy.isSome = c.copy.isSome
  isCopy    : d.state.isCopy = c.state.isCopy
  reporting : d.state = .reporting ↔ c.state = .reporting
  waiting   : d.state = .waitingTrack ↔ c.state = .waitingTrack

theorem Channel.SameCopy.stays {c d : Channel} (h : c.SameCopy d) : c.Stays d :=
  ⟨h.copy, h.isCopy, h.reporting, h.waiting⟩

theorem Channel.Stays.of_same {c d : Channel} (state : d.state = c.state) (copy : d.copy.isSome = c.copy.isSome) :
    c.Stays d :=
  ⟨copy, by rw [state], by rw [state], by rw [state]⟩

theorem Failing.stays {now : Nat} {c d : Channel} (h : Failing now c d) : c.Stays d := by
  cases h with
  | asItIs | disabled | mediaGone => exact .of_same rfl rfl
  | attempt st detail => exact (c.attemptLost_sameCopy detail now st).stays

/-- The enrolled set has the channels in a copy state and those in REPORTING (R44). -/
def ChState.isEnrolled (st : ChState) : Bool := st.isCopy || st == .reporting

theorem ChState.isEnrolled_eq_false {st : ChState} (h : st.isCopy = false ∧ st ≠ .reporting) : st.isEnrolled = false := by
  rw [isEnrolled, h.1, beq_eq_false_iff_ne.mpr h.2]
  rfl

theorem Channel.Stays.isEnrolled {c d : Channel} (h : c.Stays d) : d.state.isEnrolled = c.state.isEnrolled := by
  rw [ChState.isEnrolled, ChState.isEnrolled, h.isCopy, Bool.eq_iff_iff, Bool.or_eq_true, Bool.or_eq_true, beq_iff_eq,
    beq_iff_eq, h.reporting]

theorem State.starving_iff (s : State) : s.starving = true ↔ s.passOpen = true ∧ s.formatOnly = false ∧
    ∃ ch : ChannelNo, setHas s.control.pass.live ch = true ∧ (s.chan ch).state = .waitingTrack := by
  simp only [State.starving, Bool.and_eq_true, Bool.not_eq_true', List.any_eq_true, beq_iff_eq, and_assoc]
  exact ⟨fun ⟨h, g, ch, _, w⟩ => ⟨h, g, ch, w⟩, fun ⟨h, g, ch, w⟩ => ⟨h, g, ch, mem_channelsUp ch, w⟩⟩

/-- The starvation timer's conditions turn on the pass, the job and the channels that wait for a track. -/
theorem State.starving_congr {s t : State} (pass : t.control.pass.state = s.control.pass.state)
    (live : t.control.pass.live = s.control.pass.live) (job : t.control.job = s.control.job)
    (waiting : ∀ ch : ChannelNo, setHas s.control.pass.live ch = true →
      ((t.chan ch).state = .waitingTrack ↔ (s.chan ch).state = .waitingTrack)) : t.starving = s.starving := by
  have opened : t.passOpen = s.passOpen := by rw [State.passOpen, pass, State.passOpen]
  have filled : t.formatOnly = s.formatOnly := by rw [State.formatOnly, State.job, job]; rfl
  rw [Bool.eq_iff_iff, State.starving_iff, State.starving_iff, opened, filled, live]
  refine and_congr_right fun _ => and_congr_right fun _ => exists_congr fun ch => and_congr_right fun has => ?_
  exact waiting ch has

theorem State.starving_of_closed {s : State} (h : s.passOpen = false) : s.starving = false := by
  rw [State.starving, h]; rfl

theorem State.job_congr {s t : State} (h : t.control.job = s.control.job) : t.job = s.job := by
  rw [State.job, h, State.job]

theorem State.syncStarvation_isSome (s : State) :
    s.syncStarvation.control.starvation.isSome = s.syncStarvation.starving := by
  rw [State.syncStarvation_timer]
  split
  next on => rw [on]; rfl
  next off => rw [(Bool.not_eq_true _).mp off]; rfl

theorem setHas_empty (i : Nat) : setHas (0 : ChannelSet) i = false := setHas_zero i

/-- A channel with a copy record in progress has it. -/
theorem PassLaw.copy_of_isCopy {s : State} (h : PassLaw s) {ch : ChannelNo} (copying : (s.chan ch).state.isCopy = true) :
    ∃ r, (s.chan ch).copy = some r := by
  have held : (s.chan ch).copy.isSome = true := by rw [h.copies, h.enrolled, copying]; rfl
  exact Option.isSome_iff_exists.mp held

/-- A channel in a copy state is in the pass, which is open. -/
theorem PassLaw.opened_of_isCopy {s : State} (h : PassLaw s) {ch : ChannelNo}
    (copying : (s.chan ch).state.isCopy = true) : s.passOpen = true := by
  have live : setHas s.control.pass.live ch = true := (h.live ch).trans copying
  rw [h.opened, decide_eq_true_eq]
  rintro empty
  rw [empty, setHas_empty] at live
  cases live

/-- With no pass open no channel is in a copy state. -/
theorem PassLaw.isCopy_eq_false {s : State} (h : PassLaw s) (closed : s.passOpen = false) (ch : ChannelNo) :
    (s.chan ch).state.isCopy = false := by
  cases copying : (s.chan ch).state.isCopy with
  | false => rfl
  | true => rw [h.opened_of_isCopy copying] at closed; cases closed

theorem PassLaw.live_eq_zero {s : State} (h : PassLaw s) (closed : s.passOpen = false) : s.control.pass.live = 0 := by
  have opened := h.opened
  rw [closed] at opened
  simpa using opened.symm

namespace PassLaw

variable {s t : State}

/-- The pass and the job stay, and the channels as the pass sees them; the starvation timer follows its conditions. -/
theorem next (h : PassLaw s) (pass : t.control.pass = s.control.pass) (job : t.control.job = s.control.job)
    (jobPassed : t.control.jobPassed = s.control.jobPassed) (number : t.control.copyNumber = s.control.copyNumber)
    (copy : ∀ ch, (t.chan ch).copy.isSome = (s.chan ch).copy.isSome)
    (isCopy : ∀ ch, (t.chan ch).state.isCopy = (s.chan ch).state.isCopy)
    (enrolled : ∀ ch, (t.chan ch).state.isEnrolled = (s.chan ch).state.isEnrolled)
    (timer : t.control.starvation.isSome = t.starving) : PassLaw t := by
  have jobs := State.job_congr job
  have opened : t.passOpen = s.passOpen := by rw [State.passOpen, pass, State.passOpen]
  have busy : t.passBusy = s.passBusy := by rw [State.passBusy, opened, pass, State.passBusy]
  have flight : t.inFlight = s.inFlight := by rw [State.inFlight, pass, State.inFlight]
  refine ⟨fun ch => ?_, fun ch => ?_, fun ch => ?_, ?_, ?_, ?_, ?_, ?_, timer, ?_, ?_, ?_⟩
  · rw [pass, isCopy]; exact h.live ch
  · rw [pass]; exact (h.enrolled ch).trans (enrolled ch).symm
  · rw [pass, copy]; exact h.copies ch
  · rw [opened, pass]; exact h.opened
  · rw [opened, pass]; exact h.closure
  · rw [busy, pass]; exact h.answered
  · rw [opened, job, pass]; exact h.inForce
  · rw [jobs, jobPassed, flight]; exact h.quota
  · rw [pass, flight]; exact h.counts
  · rw [number]; exact h.number
  · rw [jobPassed]; exact h.passed

/-- The Pass Controller and the channels, as it sees them, stay. -/
theorem congr (h : PassLaw s) (control : t.control = s.control) (stays : ∀ ch, (s.chan ch).Stays (t.chan ch)) :
    PassLaw t :=
  h.next (by rw [control]) (by rw [control]) (by rw [control]) (by rw [control]) (fun ch => (stays ch).copy)
    (fun ch => (stays ch).isCopy) (fun ch => (stays ch).isEnrolled) (by
      rw [State.starving_congr (by rw [control]) (by rw [control]) (by rw [control]) fun ch _ => (stays ch).waiting,
        control]
      exact h.timer)

theorem setChan (h : PassLaw s) (ch : ChannelNo) {c : Channel} (stays : (s.chan ch).Stays c) : PassLaw (s.setChan ch c) := by
  refine h.congr rfl fun d => ?_
  by_cases e : d = ch
  · subst e; rw [State.chan_setChan_self]; exact stays
  · rw [State.chan_setChan_ne _ _ e]; exact .of_same rfl rfl

/-- The end of one copy, and with the last one the end of the pass (R51, R52). -/
theorem endCopy (h : PassLaw s) {ch : ChannelNo} (copying : (s.chan ch).state.isCopy = true) (e : CopyEnd) :
    PassLaw (s.endCopy ch e) := by
  obtain ⟨r, held⟩ := h.copy_of_isCopy copying
  obtain ⟨channel, ⟨live, enrolled⟩, ⟨passed, failed, jobPassed⟩, ⟨job, number, tag⟩, closes, timer, -, others, -⟩ :=
    s.endCopy_ended ch e
  have opened := h.opened_of_isCopy copying
  have jobs := State.job_congr job
  have told := channel r held
  have member : setHas s.control.pass.live ch = true := (h.live ch).trans copying
  have card := setCard_setDrop ch.isLt member
  have flight : s.inFlight = (s.endCopy ch e).inFlight + 1 := by rw [State.inFlight, card, State.inFlight, live]
  generalize s.endCopy ch e = t at *
  have here : (t.chan ch).state = .reporting ∧ (t.chan ch).copy.isSome = true := by rw [told]; exact ⟨rfl, rfl⟩
  have ending : (t.passOpen = true ∧ t.control.pass.live ≠ 0 ∧ t.control.pass.closeReason = s.control.pass.closeReason ∧
      t.control.pass.closure = s.control.pass.closure) ∨
      (t.passOpen = false ∧ t.control.pass.live = 0 ∧ t.control.pass.closure.isSome = true) := by
    split at closes
    next last => exact .inr ⟨closes.1, live.trans last.2, by rw [closes.2.2.1]; rfl⟩
    next more =>
      obtain ⟨state, reason, closure, -⟩ := closes
      exact .inl ⟨by rw [State.passOpen, state]; exact opened, fun none => more ⟨opened, live.symm.trans none⟩, reason,
        closure⟩
  refine ⟨fun d => ?_, fun d => ?_, fun d => ?_, ?_, ?_, ?_, ?_, ?_, ?_, ?_, ?_, ?_⟩
  · rw [live, setHas_setDrop, h.live]
    by_cases same : d = ch
    · subst same; rw [here.1]; simp; rfl
    · have apart : (ch : Nat) ≠ d := fun x => same (Fin.ext x.symm)
      rw [others d same]; simp [apart]
  · rw [enrolled, h.enrolled]
    by_cases same : d = ch
    · subst same; rw [copying, here.1]; rfl
    · rw [others d same]
  · rw [enrolled, ← h.copies]
    by_cases same : d = ch
    · subst same; rw [here.2, held]; rfl
    · rw [others d same]
  · rcases ending with ⟨state, some, -⟩ | ⟨state, none, -⟩
    · rw [state, decide_eq_true some]
    · rw [state, none]; rfl
  · rcases ending with ⟨-, -, -, closure⟩ | ⟨state, -⟩
    · rw [closure]; exact fun some => absurd (h.closure some) (by rw [opened]; nofun)
    · exact fun _ => state
  · intro idle
    obtain ⟨closed, none⟩ := State.passBusy_eq_false_iff.mp idle
    rcases ending with ⟨state, -⟩ | ⟨-, -, closure⟩
    · rw [state] at closed; cases closed
    · rw [none] at closure; cases closure
  · intro state
    rcases ending with ⟨-, -, reason, -⟩ | ⟨closed, -⟩
    · rw [job, tag, reason]; exact h.inForce opened
    · rw [closed] at state; cases state
  · rw [jobs, jobPassed]
    intro some
    have most := h.quota some
    split <;> omega
  · rw [timer]
    split
    next on => rw [on]; rfl
    next off => rw [(Bool.not_eq_true _).mp off]; rfl
  · have counts := h.counts
    rw [passed, failed]
    split <;> omega
  · rw [number]; exact h.number
  · rw [jobPassed]
    have most : Config.counterMax = 65535 := rfl
    split
    · omega
    · exact h.passed

/-- A finished track leaves the copy in progress. -/
theorem trackDone (h : PassLaw s) (ch : ChannelNo) (a : Attempt) : PassLaw (s.trackDone ch a) := by
  refine h.congr rfl fun d => ?_
  by_cases same : d = ch
  · subst same
    rw [State.trackDone, State.chan_setChan_self]
    exact .of_same rfl (by simp)
  · rw [State.trackDone, State.chan_setChan_ne _ _ same]
    exact .of_same rfl rfl

end PassLaw

theorem Channel.seekOn_state (c : Channel) (target head now : Nat) : (c.seekOn target head now).state = c.state := by
  unfold seekOn
  split
  · rfl
  · split
    · rfl
    · split <;> rfl

/-- The Pass Controller while a pass is being opened: nobody waits for a track, and every live copy is one just enrolled
(R47, R48). -/
structure Opening (s : State) : Prop where
  opened   : s.control.pass.state = .opened ∧ s.control.pass.closeReason = none ∧ s.control.pass.closure = none
  inForce  : s.control.job.isSome = true ∧ s.control.pass.tag ≠ 0
  live     : ∀ ch : ChannelNo, setHas s.control.pass.live ch = (s.chan ch).state.isCopy
  enrolled : s.control.pass.enrolled = s.control.pass.live
  copies   : ∀ ch : ChannelNo, (s.chan ch).copy.isSome = (s.chan ch).state.isCopy
  quiet    : ∀ ch : ChannelNo, (s.chan ch).state ≠ .reporting ∧ (s.chan ch).state ≠ .waitingTrack
  quota    : s.job.quota ≠ 0 → s.control.jobPassed + s.inFlight ≤ s.job.quota
  timer    : s.control.starvation = none
  counts   : s.control.pass.passed = 0 ∧ s.control.pass.failed = 0
  number   : 1 ≤ s.control.copyNumber ∧ s.control.copyNumber ≤ Config.counterMax
  passed   : s.control.jobPassed ≤ Config.counterMax

namespace Opening

variable {s t : State}

theorem congr (h : Opening s) (control : t.control = s.control) (stays : ∀ ch, (s.chan ch).Stays (t.chan ch)) :
    Opening t := by
  have jobs : t.job = s.job := State.job_congr (by rw [control])
  have flight : t.inFlight = s.inFlight := by rw [State.inFlight, control, State.inFlight]
  refine ⟨?_, ?_, fun ch => ?_, ?_, fun ch => ?_, fun ch => ?_, ?_, ?_, ?_, ?_, ?_⟩
  · rw [control]; exact h.opened
  · rw [control]; exact h.inForce
  · rw [control, (stays ch).isCopy]; exact h.live ch
  · rw [control]; exact h.enrolled
  · rw [(stays ch).copy, (stays ch).isCopy]; exact h.copies ch
  · exact ⟨fun told => (h.quiet ch).1 ((stays ch).reporting.mp told),
      fun waits => (h.quiet ch).2 ((stays ch).waiting.mp waits)⟩
  · rw [jobs, control, flight]; exact h.quota
  · rw [control]; exact h.timer
  · rw [control]; exact h.counts
  · rw [control]; exact h.number
  · rw [control]; exact h.passed

/-- A pass opens with nobody in it. -/
theorem begins (h : PassLaw s) {tag : Byte} (zero : ChannelSet) (mayBegin : s.passBeginRefusal tag = none) :
    Opening (s.openPass tag zero) := by
  unfold State.passBeginRefusal at mayBegin
  split at mayBegin
  · cases mayBegin
  next nonzero =>
  split at mayBegin
  · cases mayBegin
  next idle =>
  split at mayBegin
  · cases mayBegin
  next j job =>
  have free := Bool.not_eq_true _ ▸ idle
  obtain ⟨closed, -⟩ := State.passBusy_eq_false_iff.mp free
  have nobody := h.live_eq_zero closed
  have chan (ch : ChannelNo) : ((s.openPass tag zero).chan ch).state = (s.chan ch).state ∧
      ((s.openPass tag zero).chan ch).copy = (s.chan ch).copy := by
    simp [State.openPass, State.chan, State.mapChans]
  have out (ch : ChannelNo) : (s.chan ch).state.isEnrolled = false := by
    rw [ChState.isEnrolled, ← h.enrolled, h.answered free]; exact setHas_empty _
  obtain ⟨copy, told⟩ := forall_and.mp fun ch => Bool.or_eq_false_iff.mp (out ch)
  have still : s.control.starvation = none := by
    have timer := h.timer
    rw [State.starving_of_closed closed] at timer
    simpa using timer
  refine ⟨⟨rfl, rfl, rfl⟩, ⟨?_, nonzero⟩, fun ch => ?_, rfl, fun ch => ?_, fun ch => ?_, ?_, still, ⟨rfl, rfl⟩, h.number,
    h.passed⟩
  · show s.control.job.isSome = true
    rw [job]; rfl
  · rw [(chan ch).1, copy ch]; exact setHas_empty _
  · rw [(chan ch).1, (chan ch).2, copy ch, h.copies, h.answered free]; exact setHas_empty _
  · rw [(chan ch).1]
    exact ⟨beq_eq_false_iff_ne.mp (told ch), Channel.not_isCopy_ne_waitingTrack (copy ch)⟩
  · show s.job.quota ≠ 0 → s.control.jobPassed + setCard (0 : ChannelSet) ≤ s.job.quota
    intro some
    have most := h.quota some
    have none : setCard (0 : ChannelSet) = 0 := setCard_zero
    omega

/-- A READY channel that the quota leaves room for is enrolled (R47, R48). -/
theorem enroll (h : Opening s) {ch : ChannelNo} (ready : (s.chan ch).state = .ready)
    (free : s.notEnrolled (s.chan ch) = none) : Opening (s.enroll ch) := by
  have room : ¬(s.job.quota ≠ 0 ∧ s.job.quota ≤ s.control.jobPassed + s.inFlight) := by
    intro full
    rw [State.notEnrolled, if_pos full] at free
    cases free
  have out : setHas s.control.pass.live ch = false := by rw [h.live, ready]; rfl
  have card := setCard_setAdd ch.isLt out
  have flight : (s.enroll ch).inFlight = s.inFlight + 1 := card
  have member (d : ChannelNo) : setHas (setAdd s.control.pass.live ch) d =
      (setHas s.control.pass.live d || decide (d = ch)) := by
    rw [setHas_setAdd, decide_eq_true d.isLt, Bool.true_and]
    congr 1
    exact decide_eq_decide.mpr ⟨fun e => Fin.ext e.symm, fun e => congrArg Fin.val e.symm⟩
  have begun : ((s.enroll ch).chan ch).state.isCopy = true ∧ ((s.enroll ch).chan ch).state ≠ .reporting ∧
      ((s.enroll ch).chan ch).state ≠ .waitingTrack ∧ ((s.enroll ch).chan ch).copy.isSome = true := by
    have chan : (s.enroll ch).chan ch = (s.chan ch).enroll (CopyRecord.enrolled s.control.pass.tag s.control.copyNumber
        s.serialTaken) s.layout.density (s.layout.headOf 0) s.now := by simp [State.enroll, State.chan]
    have states : ((s.enroll ch).chan ch).state = .recalibrating ∨ ((s.enroll ch).chan ch).state = .seeking := by
      rw [chan]
      unfold Channel.enroll Channel.enterRecalibrating
      dsimp only
      split
      · exact .inr (Channel.seekOn_state _ _ _ _)
      · exact .inl rfl
    have copy : ((s.enroll ch).chan ch).copy.isSome = true := by rw [chan, Channel.enroll_copy]; rfl
    rcases states with st | st <;> exact ⟨by rw [st]; rfl, by rw [st]; nofun, by rw [st]; nofun, copy⟩
  have other (d : ChannelNo) (apart : d ≠ ch) : (s.enroll ch).chan d = s.chan d := by
    have : (ch : Nat) ≠ d := fun e => apart (Fin.ext e.symm)
    simp [State.enroll, State.chan, this]
  obtain ⟨copying, told, waits, copy⟩ := begun
  refine ⟨h.opened, h.inForce, fun d => ?_, ?_, fun d => ?_, fun d => ?_, fun some => ?_, h.timer, h.counts, ?_, h.passed⟩
  · show setHas (setAdd s.control.pass.live ch) d = _
    rw [member]
    by_cases same : d = ch
    · subst same; rw [copying]; simp
    · rw [other d same, h.live]; simp [same]
  · show setAdd s.control.pass.enrolled ch = setAdd s.control.pass.live ch
    rw [h.enrolled]
  · by_cases same : d = ch
    · subst same; rw [copying, copy]
    · rw [other d same]; exact h.copies d
  · by_cases same : d = ch
    · subst same; exact ⟨told, waits⟩
    · rw [other d same]; exact h.quiet d
  · have quota : s.job.quota ≠ 0 := some
    rw [flight]
    show s.control.jobPassed + (s.inFlight + 1) ≤ s.job.quota
    omega
  · have number := h.number
    show 1 ≤ nextCopyNumber s.control.copyNumber ∧ nextCopyNumber s.control.copyNumber ≤ Config.counterMax
    unfold nextCopyNumber
    split
    · decide
    · omega

/-- The pass is open with its copies, or closed again if it enrolled nobody (R49). -/
theorem closes (h : Opening s) : PassLaw s.closeIfEmpty := by
  obtain ⟨state, reason, closure⟩ := h.opened
  have enrolled (ch : ChannelNo) : setHas s.control.pass.enrolled ch = (s.chan ch).state.isEnrolled := by
    rw [h.enrolled, h.live, ChState.isEnrolled, beq_eq_false_iff_ne.mpr (h.quiet ch).1, Bool.or_false]
  have copies (ch : ChannelNo) : (s.chan ch).copy.isSome = setHas s.control.pass.enrolled ch := by
    rw [h.copies, h.enrolled, h.live]
  have counts : s.control.pass.passed + s.control.pass.failed + s.inFlight ≤ 8 := by
    have card : s.inFlight ≤ 8 := setCard_le s.control.pass.live
    rw [h.counts.1, h.counts.2]
    omega
  unfold State.closeIfEmpty
  split
  next nobody =>
    have closed : (s.modPass fun p => { p with state := .idle }).passOpen = false := rfl
    refine ⟨h.live, enrolled, copies, ?_, fun _ => closed, fun _ => h.enrolled.trans nobody, nofun, h.quota, ?_, counts,
      h.number, h.passed⟩
    · rw [closed]
      exact (decide_eq_false (not_not_intro nobody)).symm
    · rw [State.starving_of_closed closed]
      exact congrArg Option.isSome h.timer
  next some =>
    have opened : s.passOpen = true := by rw [State.passOpen, state]; rfl
    have busy : s.passBusy = true := by rw [State.passBusy, opened]; rfl
    refine ⟨h.live, enrolled, copies, ?_, fun held => ?_, fun idle => ?_, fun _ => ⟨h.inForce.1, h.inForce.2, reason⟩,
      h.quota, ?_, counts, h.number, h.passed⟩
    · rw [opened, decide_eq_true some]
    · rw [closure] at held; cases held
    · rw [busy] at idle; cases idle
    · rw [h.timer]
      refine Eq.symm (Bool.eq_false_iff.mpr fun starving => ?_)
      obtain ⟨-, -, ch, -, waits⟩ := (State.starving_iff s).mp starving
      exact (h.quiet ch).2 waits

end Opening

/-- The law where no channel is in the pass and none is open. -/
theorem PassLaw.of_nobody {s : State} (live : s.control.pass.live = 0) (enrolled : s.control.pass.enrolled = 0)
    (closed : s.passOpen = false)
    (out : ∀ ch, (s.chan ch).state.isEnrolled = false ∧ (s.chan ch).copy = none)
    (quota : s.job.quota ≠ 0 → s.control.jobPassed ≤ s.job.quota) (timer : s.control.starvation = none)
    (counts : s.control.pass.passed + s.control.pass.failed ≤ 8)
    (number : 1 ≤ s.control.copyNumber ∧ s.control.copyNumber ≤ Config.counterMax)
    (passed : s.control.jobPassed ≤ Config.counterMax) : PassLaw s := by
  have none : s.inFlight = 0 := by rw [State.inFlight, live]; exact setCard_zero
  refine ⟨fun ch => ?_, fun ch => ?_, fun ch => ?_, ?_, fun _ => closed, fun _ => enrolled, fun opened => ?_, fun some => ?_,
    ?_, ?_, number, passed⟩
  · rw [live, (Bool.or_eq_false_iff.mp (out ch).1).1]; exact setHas_empty _
  · rw [enrolled]; exact (setHas_empty _).trans (out ch).1.symm
  · rw [enrolled, (out ch).2]; exact (setHas_empty _).symm
  · rw [closed, live]; rfl
  · rw [closed] at opened; cases opened
  · rw [none]; exact quota some
  · rw [timer, State.starving_of_closed closed]; rfl
  · rw [none]; exact counts

theorem one_in_range : 1 ≤ 1 ∧ 1 ≤ Config.counterMax := by decide

/-- Every operation keeps the law of the Pass Controller. -/
theorem keptPassLaw : Kept PassLaw where
  clock _ h _ := h.congr rfl fun _ => .of_same rfl rfl
  link h turn := h.congr turn.onlyLink.control fun ch => by
    rw [State.chan, State.chan, turn.onlyLink.channels]; exact .of_same rfl rfl
  tables h _ := h.congr rfl fun _ => .of_same rfl rfl
  append _ h _ _ := h.congr rfl fun _ => .of_same rfl rfl
  clear h := h.congr rfl fun _ => .of_same rfl rfl
  move {s ch _} h moved := h.setChan ch moved.sameCopy.stays
  fails {s ch c} _ _ h copying failing := by
    have set := h.setChan ch failing.stays
    exact set.endCopy (by rw [State.chan_setChan_self, failing.stays.isCopy]; exact copying) _
  finishes {s ch a} h st _ := by
    have done := h.trackDone ch a
    have state : ((s.trackDone ch a).chan ch).state = (s.chan ch).state := by
      rw [State.trackDone, State.chan_setChan_self]
    have copying : ((s.trackDone ch a).chan ch).state.isCopy = true ∧
        ((s.trackDone ch a).chan ch).state ≠ .waitingTrack := by
      rw [state]; rcases st with st | st <;> rw [st] <;> exact ⟨rfl, nofun⟩
    rw [State.finishTrack_eq]
    split
    · exact done.endCopy copying.1 _
    · have next : ((s.trackDone ch a).chan ch).Stays
          { (s.trackDone ch a).chan ch with cursor := some (a.track + 1), attempts := 0 } := .of_same rfl rfl
      have seeks := (Channel.enterSeeking_sameCopy
        { (s.trackDone ch a).chan ch with cursor := some (a.track + 1), attempts := 0 }
        ((s.trackDone ch a).physicalCylinder (a.track + 1)) ((s.trackDone ch a).layout.headOf (a.track + 1))
        (s.trackDone ch a).now copying).stays
      exact done.setChan ch ⟨seeks.copy.trans next.copy, seeks.isCopy, seeks.reporting, seeks.waiting⟩
  settles {s ch} h st _ := by
    have state (d : ChannelNo) : (s.settled ch).chan d = if d = ch then
        ({ s.chan ch with
          settleTimer := none, activePrecomp := (s.chan ch).precompValue s.precomp, attempts := 0 } : Channel).enter
          (if s.trackIsReady ((s.chan ch).cursor.getD 0) then .waitingIndex else .waitingTrack) s.now
        else s.chan d := by
      split
      next same => subst same; exact State.chan_setChan_self _ _ _
      next apart => exact State.chan_setChan_ne _ _ apart
    have waits : ∀ b : Bool, (if b then ChState.waitingIndex else .waitingTrack).isCopy = true ∧
        (if b then ChState.waitingIndex else .waitingTrack).isEnrolled = true := by decide
    refine h.next (t := s.settled ch) rfl rfl rfl rfl (fun d => ?_) (fun d => ?_) (fun d => ?_)
      (State.syncStarvation_isSome _)
    · rw [state]
      split
      next same => subst same; rfl
      next => rfl
    · rw [state]
      split
      next same => subst same; rw [st]; exact (waits _).1
      next => rfl
    · rw [state]
      split
      next same => subst same; rw [st]; exact (waits _).2
      next => rfl
  placed {s ch _ rest} h st _ := by
    have onward := Channel.afterResult_onward { (s.chan ch).handedOver rest with copy := none } ch s.now
      ((s.chan ch).copy.bind (·.sort))
    have self : (s.resultPlaced ch rest).chan ch =
        ({ (s.chan ch).handedOver rest with copy := none } : Channel).afterResult ch ((s.chan ch).copy.bind (·.sort))
          s.now := State.chan_setChan_self _ _ _
    have other (d : ChannelNo) (apart : d ≠ ch) : (s.resultPlaced ch rest).chan d = s.chan d :=
      State.chan_setChan_ne _ _ apart
    have set : (s.resultPlaced ch rest).control.pass.enrolled = setDrop s.control.pass.enrolled ch := rfl
    have enrolled : setHas s.control.pass.enrolled ch = true := by rw [h.enrolled, st]; rfl
    have live : setHas s.control.pass.live ch = false := by rw [h.live, st]; rfl
    refine ⟨fun d => ?_, fun d => ?_, fun d => ?_, h.opened, h.closure, fun idle => ?_, h.inForce, h.quota, ?_, h.counts,
      h.number, h.passed⟩
    · by_cases same : d = ch
      · subst same; rw [self, onward.off.1]; exact live
      · rw [other d same]; exact h.live d
    · rw [set, setHas_setDrop]
      by_cases same : d = ch
      · subst same
        rw [self]
        rw [decide_eq_false (not_not_intro rfl), Bool.and_false]
        exact (ChState.isEnrolled_eq_false onward.off).symm
      · have apart : (ch : Nat) ≠ d := fun e => same (Fin.ext e.symm)
        rw [other d same, ← h.enrolled]; simp [apart]
    · rw [set, setHas_setDrop]
      by_cases same : d = ch
      · subst same; rw [self, onward.copy]; simp
      · have apart : (ch : Nat) ≠ d := fun e => same (Fin.ext e.symm)
        rw [other d same, h.copies]; simp [apart]
    · have none : s.control.pass.enrolled = 0 := h.answered idle
      rw [none, setHas_empty] at enrolled
      cases enrolled
    · have same : (s.resultPlaced ch rest).starving = s.starving := State.starving_congr rfl rfl rfl fun d has => by
        by_cases same : d = ch
        · subst same; rw [live] at has; cases has
        · rw [other d same]
      rw [same]
      exact h.timer
  job {s _ j} h idle _ := by
    obtain ⟨closed, -⟩ := State.passBusy_eq_false_iff.mp idle
    have nobody := h.live_eq_zero closed
    have out (ch : ChannelNo) : (s.chan ch).state.isEnrolled = false ∧ (s.chan ch).copy = none := by
      have none : setHas s.control.pass.enrolled ch = false := by rw [h.answered idle]; exact setHas_empty _
      have gone := h.copies ch
      rw [none] at gone
      exact ⟨(h.enrolled ch).symm.trans none, by simpa using gone⟩
    have still : s.control.starvation = none := by
      have timer := h.timer
      rw [State.starving_of_closed closed] at timer
      simpa using timer
    have counts := h.counts
    exact .of_nobody nobody (h.answered idle) closed out (fun _ => Nat.zero_le _) still (by
      show s.control.pass.passed + s.control.pass.failed ≤ 8; omega) one_in_range (Nat.zero_le _)
  begins {s tag} zero h mayBegin := by
    obtain ⟨u, only, e⟩ := s.beginPass_onlyLink tag zero
    have dealt : Opening (s.dealt tag zero).state := by
      refine State.dealt_induct (.begins h zero mayBegin) (fun u ch h st => ?spins) fun u ch h st free => h.enroll st free
      have spins := ((u.chan ch).enterSpinup_onward ch u.now).sameCopy (by rw [st]; rfl) (by rw [st]; nofun)
      refine h.congr rfl fun d => ?_
      by_cases same : d = ch
      · subst same; rw [State.chan_setChan_self]; exact spins.stays
      · rw [State.chan_setChan_ne _ _ same]; exact .of_same rfl rfl
    rw [e]
    refine (dealt.congr only.control fun ch => ?_).closes
    rw [State.chan, State.chan, only.channels]
    exact .of_same rfl rfl
  aborts {s} reason close h _ := by
    obtain ⟨live, others, ⟨state, tag, none, enrolled, passed, failed, -⟩, closure, ⟨job, jobPassed, number, timer⟩, -⟩ :=
      s.abortPass_ended reason close
    generalize s.abortPass reason close = t at *
    have closed : t.passOpen = false := by rw [State.passOpen, state]; rfl
    have told (ch : ChannelNo) (has : setHas s.control.pass.live ch = true) :
        (t.chan ch).state = .reporting ∧ (t.chan ch).copy.isSome = true := by
      obtain ⟨r, held⟩ := h.copy_of_isCopy ((h.live ch).symm.trans has)
      rw [live ch r has held]
      exact ⟨rfl, rfl⟩
    have flight : t.inFlight = 0 := by rw [State.inFlight, none]; exact setCard_zero
    refine ⟨fun ch => ?_, fun ch => ?_, fun ch => ?_, ?_, fun _ => closed, fun idle => ?_, fun opened => ?_, fun some => ?_,
      ?_, ?_, by rw [number]; exact h.number, by rw [jobPassed]; exact h.passed⟩
    · rw [none]
      refine (setHas_empty _).trans ?_
      cases has : setHas s.control.pass.live ch with
      | true => rw [(told ch has).1]; rfl
      | false => rw [others ch has, ← h.live, has]
    · rw [enrolled, h.enrolled]
      cases has : setHas s.control.pass.live ch with
      | true => rw [(told ch has).1, ← h.live, has]; rfl
      | false => rw [others ch has]
    · rw [enrolled, ← h.copies]
      cases has : setHas s.control.pass.live ch with
      | true =>
        obtain ⟨r, held⟩ := h.copy_of_isCopy ((h.live ch).symm.trans has)
        rw [(told ch has).2, held]; rfl
      | false => rw [others ch has]
    · rw [closed, none]; rfl
    · obtain ⟨-, gone⟩ := State.passBusy_eq_false_iff.mp idle
      rw [closure] at gone; cases gone
    · rw [closed] at opened; cases opened
    · rw [State.job_congr job] at some ⊢
      have most := h.quota some
      omega
    · rw [timer, State.starving_of_closed closed]; rfl
    · have counts := h.counts
      omega
  closes {s} h nobody :=
    ⟨h.live, h.enrolled, h.copies, h.opened, nofun, fun _ => nobody, h.inForce, h.quota, h.timer, h.counts, h.number,
      h.passed⟩
  written {s body i} h _ := by
    obtain ⟨-, -, -, -, -, -, timer, control⟩ := s.acceptSegment_fields i body
    refine h.next (by rw [control]) (by rw [control]) (by rw [control]) (by rw [control]) (fun ch => ?_) (fun ch => ?_)
      (fun ch => ?_) (State.syncStarvation_isSome _)
    all_goals rw [State.acceptSegment_chan]; split
    next => rfl
    next => rfl
    next told => rw [told.2.2.1]; rfl
    next => rfl
    next told => rw [told.2.2.1]; rfl
    next => rfl
  allotted {s body i} h _ := by
    obtain ⟨-, -, -, -, -, -, timer, control⟩ := (s.allocate i (num1 body 1)).acceptSegment_fields i body
    have chan (ch : ChannelNo) : (s.allocate i (num1 body 1)).chan ch = s.chan ch := rfl
    refine h.next (by rw [control]; rfl) (by rw [control]; rfl) (by rw [control]; rfl) (by rw [control]; rfl)
      (fun ch => ?_) (fun ch => ?_) (fun ch => ?_) (State.syncStarvation_isSome _)
    all_goals rw [State.acceptSegment_chan]; split
    next => rfl
    next => rfl
    next told => rw [← chan, told.2.2.1]; rfl
    next => rfl
    next told => rw [← chan, told.2.2.1]; rfl
    next => rfl
  partReset {s} h := by
    have out (ch : ChannelNo) : (s.blocksReset.chan ch).state.isEnrolled = false ∧ (s.blocksReset.chan ch).copy = none := by
      rw [State.blocksReset, State.chan_mapChans]
      have onward := Channel.goOn_onward { (s.chan ch).dropAttempt.cleared s.now with copy := none, held := [], cursor := none }
        ch s.now
      exact ⟨ChState.isEnrolled_eq_false onward.off, onward.copy⟩
    have blocks : PassLaw s.blocksReset :=
      .of_nobody rfl rfl rfl out (fun _ => Nat.zero_le _) rfl (Nat.zero_le _) one_in_range (Nat.zero_le _)
    have only := s.blocksReset.place_onlyLink (.resetDone (setCard s.control.pass.enrolled) s.boundSerials.length)
    rw [State.partReset_eq]
    exact blocks.congr only.control fun ch => by rw [State.chan, State.chan, only.channels]; exact .of_same rfl rfl
  powerOn {s t} a b h e := by
    cases e
    refine .of_nobody rfl rfl rfl (fun ch => ?_) (fun _ => Nat.zero_le _) rfl (Nat.zero_le _) one_in_range (Nat.zero_le _)
    simp [State.chan, Channel.powerOn, Channel.initial, ChState.isEnrolled, ChState.isCopy]

/-- Settles O8: each operation that the commands are made of keeps the law. -/
theorem stepKeepsPassLaw : Obligations.StepKeepsPassLaw := fun _ _ h e =>
  keptPassLaw.step (fun _ h => h.congr rfl fun _ => .of_same rfl rfl) h e

end Sys2Proof.Machine
end

section
/-!
The law of one drive channel (R60, R61, R63, R65, R80, R90, R102, R104) in six parts, each over the fields it speaks of, and
the ways a channel goes on to a state without a copy.
-/

namespace Sys2Proof.Machine

/-! ### The parts of the law -/

/-- What a copy in progress holds: the cursor, the attempt with its phase and WRITE GATE, and the timers of the copy. -/
structure CopyFacts (st : ChState) (track : Option Nat) (tried : Option Attempt) (on : Bool) (recover step settle : Timer)
    (waits : Bool) : Prop where
  cursor   : track.isSome = st.isCopy
  attempt  : tried.isSome = (st == .writing || st == .verifying)
  phase    : ∀ a, tried = some a → (a.phase = .read ↔ st = .verifying)
  position : ∀ a, tried = some a → a.writeBegan.isSome = (a.phase != .delay) ∧
    a.writeEnded.isSome = (a.phase == .read) ∧ (a.lastCheck = true → a.phase ≠ .delay)
  gate     : on = true ↔ ∃ a, tried = some a ∧ a.phase = .write
  recovery : recover.isSome = true → st.isCopy = true
  stepping : step.isSome = (st == .recalibrating || (st == .seeking && settle.isNone))
  settling : settle.isSome = true → st = .seeking
  waiting  : waits = true → st.isCopy = true

/-- The timers of the states without a copy, and the strobe. -/
structure SortFacts (st : ChState) (spin stay delay unload : Timer) (of : Option Strobe) (accepts rejects noted : Bool) :
    Prop where
  spinUp  : spin.isSome = (st == .spinup)
  idle    : stay.isSome = true → st = .ready
  sort    : delay.isSome = (st == .sorting)
  eject   : unload.isSome = (st == .unload)
  strobe  : of.isSome = (st == .sorting)
  accept  : accepts = true → of = some .accept
  reject  : rejects = true → of = some .reject
  removal : noted = true → (accepts || rejects) = true

/-- The reports a channel holds. -/
structure HeldFacts (ch : ChannelNo) (st : ChState) (later : Bool) (list : List Report) : Prop where
  reset    : later = true → st = .reporting ∨ st = .rejecting
  held     : list.length ≤ 3 ∧ list.Nodup
  events   : ∀ r ∈ list, r.tailState = none → r = .channelEvent ch .jammed ∨ r = .channelEvent ch .spindleStopped
  tail     : ∀ r ∈ list.dropLast, r.tailState = none
  tailLast : list.getLast?.bind Report.tailState = st.placing

/-- An Index Monitor that runs or not, whatever the state. -/
structure MonitorRuns (on : Bool) (m : Monitor) : Prop where
  running : m.running = on
  count   : m.count ≤ 3 ∧ m.count ≤ m.history.length
  history : m.history.length ≤ 4 ∧ ∀ p ∈ m.history, p ≤ Config.periodMaxHeld
  width   : ∀ w, m.lastWidth = some w → w ≤ Config.periodMaxHeld
  timer   : m.indexTimer.isSome = m.running
  off     : m.running = false → m.history = [] ∧ m.lastEdge = none ∧ m.pulseStart = none ∧ m.lastWidth = none

/-- A channel in READY is STABLE, and one in SPINUP is not. -/
def StableFacts (st : ChState) (m : Monitor) : Prop :=
  (st = .ready → m.stable = true) ∧ (st = .spinup → m.stable = false)

/-- The state goes with the enabled field. -/
def EnabledFacts (st : ChState) (enabled : Bool) : Prop :=
  (st = .offline → enabled = false) ∧
    (st = .empty ∨ st = .spinup ∨ st = .ready ∨ st = .stopped → enabled = true)

/-- The state goes with the drive's media. -/
structure MediaFacts (st : ChState) (present noted : Bool) : Prop where
  media   : st = .spinup ∨ st = .ready ∨ st = .stopped ∨ st = .unload ∨ st = .jammed ∨ st.isCopy = true → present = true
  sorting : st = .sorting → noted = false → present = true
  empty   : st = .empty → present = false

namespace Channel

def CopyOk (c : Channel) : Prop :=
  CopyFacts c.state c.cursor c.attempt c.lines.writeGate c.recoveryTimer c.stepTimer c.settleTimer c.pendingRecord.isSome

def SortOk (c : Channel) : Prop :=
  SortFacts c.state c.spinUpTimer c.idleTimer c.sortTimer c.ejectTimer c.strobeSort c.lines.accept c.lines.reject
    c.removalNoted

/-- All of the law but what turns on the enabled field and the drive's media. -/
structure Inner (ch : ChannelNo) (c : Channel) : Prop where
  copy    : c.CopyOk
  sort    : c.SortOk
  held    : HeldFacts ch c.state c.resetHeld c.held
  monitor : MonitorRuns c.state.motor c.monitor
  stable  : StableFacts c.state c.monitor

end Channel

theorem channelLaw_iff {ch : ChannelNo} {c : Channel} : ChannelLaw ch c ↔
    c.Inner ch ∧ EnabledFacts c.state c.active.enabled ∧ MediaFacts c.state c.lines.mediaPresent c.removalNoted := by
  constructor
  · intro h
    exact ⟨⟨⟨h.cursor, h.attempt, h.phase, h.position, h.gate, h.recovery, h.stepping, h.settling, h.waiting⟩,
      ⟨h.spinUp, h.idle, h.sort, h.eject, h.strobe, h.accept, h.reject, h.removal⟩,
      ⟨h.reset, h.held, h.events, h.tail, h.tailLast⟩,
      ⟨h.monitor.running, h.monitor.count, h.monitor.history, h.monitor.width, h.monitor.timer, h.monitor.off⟩,
      ⟨h.monitor.ready, h.monitor.spinup⟩⟩, ⟨h.offline, h.enabled⟩, ⟨h.media, h.sorting, h.empty⟩⟩
  · rintro ⟨⟨copy, sort, held, monitor, ready, spinup⟩, ⟨offline, enabled⟩, media⟩
    exact ⟨⟨monitor.running, monitor.count, monitor.history, monitor.width, monitor.timer, monitor.off, ready, spinup⟩,
      copy.cursor, copy.attempt, copy.phase, copy.position, copy.gate, sort.spinUp, sort.idle, copy.recovery, sort.sort,
      copy.stepping, copy.settling, sort.eject, sort.strobe, sort.accept, sort.reject, sort.removal, copy.waiting,
      held.reset, held.held, held.events, held.tail, held.tailLast, offline, enabled, media.media, media.sorting,
      media.empty⟩

namespace ChannelLaw

variable {ch : ChannelNo} {c : Channel} (h : ChannelLaw ch c)
include h

theorem inner : c.Inner ch := (channelLaw_iff.mp h).1
theorem enabledFacts : EnabledFacts c.state c.active.enabled := (channelLaw_iff.mp h).2.1
theorem mediaFacts : MediaFacts c.state c.lines.mediaPresent c.removalNoted := (channelLaw_iff.mp h).2.2

end ChannelLaw

/-! ### From one state to another -/

section
variable {st st' : ChState}

/-- Without a copy all its facts say that nothing is there, in whatever state. -/
theorem CopyFacts.rest {track : Option Nat} {tried : Option Attempt} {on : Bool} {recover step settle : Timer}
    {waits : Bool} (h : CopyFacts st track tried on recover step settle waits) (off : st.isCopy = false)
    (off' : st'.isCopy = false) : CopyFacts st' track tried on recover step settle waits := by
  have not {x y : ChState} (hy : y.isCopy = true) (hx : x.isCopy = false) : x ≠ y := by rintro rfl; rw [hy] at hx; cases hx
  have writing {x : ChState} (hx : x.isCopy = false) : (x == .writing || x == .verifying) = false := by
    rw [beq_eq_false_iff_ne.mpr (not rfl hx), beq_eq_false_iff_ne.mpr (not rfl hx)]; rfl
  have stepping {x : ChState} (hx : x.isCopy = false) (b : Bool) : (x == .recalibrating || (x == .seeking && b)) = false := by
    rw [beq_eq_false_iff_ne.mpr (not rfl hx), beq_eq_false_iff_ne.mpr (not rfl hx)]; rfl
  have none : tried = none := by
    have attempt := h.attempt
    rw [writing off] at attempt
    simpa using attempt
  subst none
  refine ⟨by rw [h.cursor, off, off'], by rw [writing off']; rfl, nofun, nofun, h.gate, fun on => ?_, ?_, fun on => ?_,
    fun on => ?_⟩
  · have := h.recovery on; rw [off] at this; cases this
  · rw [h.stepping, stepping off, stepping off']
  · have := h.settling on; rw [this] at off; cases off
  · have := h.waiting on; rw [off] at this; cases this

/-- No timer and no strobe outside SPINUP, SORTING and UNLOAD. -/
theorem SortFacts.quiet (spin : st ≠ .spinup) (sort : st ≠ .sorting) (unload : st ≠ .unload) :
    SortFacts st none none none none none false false false := by
  refine ⟨?_, nofun, ?_, ?_, ?_, nofun, nofun, nofun⟩
  · rw [beq_eq_false_iff_ne.mpr spin]; rfl
  · rw [beq_eq_false_iff_ne.mpr sort]; rfl
  · rw [beq_eq_false_iff_ne.mpr unload]; rfl
  · rw [beq_eq_false_iff_ne.mpr sort]; rfl

end

/-- The held reports but for a tail report: JAMMED and SPINDLE-STOPPED, each at most once. -/
def EventsOnly (ch : ChannelNo) (held : List Report) : Prop :=
  held.Nodup ∧ ∀ r ∈ held, r = .channelEvent ch .jammed ∨ r = .channelEvent ch .spindleStopped

namespace EventsOnly

variable {ch : ChannelNo} {held : List Report}

theorem nil : EventsOnly ch [] := ⟨List.nodup_nil, fun _ mem => absurd mem List.not_mem_nil⟩

theorem tailState (h : EventsOnly ch held) : ∀ r ∈ held, r.tailState = none := fun r mem => by
  rcases h.2 r mem with rfl | rfl <;> rfl

/-- There are no more than two such reports. -/
theorem length_le (h : EventsOnly ch held) : held.length ≤ 2 := by
  have sub : held ⊆ [.channelEvent ch .jammed, .channelEvent ch .spindleStopped] := fun r mem => by
    rcases h.2 r mem with rfl | rfl <;> simp
  exact h.1.length_le_of_subset sub

end EventsOnly

theorem nodup_concat {held : List Report} {r : Report} (nodup : held.Nodup) (new : r ∉ held) : (held ++ [r]).Nodup := by
  refine List.nodup_append.mpr ⟨nodup, List.pairwise_singleton _ r, fun q mem p last same => new ?_⟩
  rw [← List.mem_singleton.mp last, ← same]
  exact mem

namespace HeldFacts

variable {ch : ChannelNo} {st st' : ChState} {reset : Bool} {held : List Report}

/-- Without a tail report to place. -/
theorem of_events (h : EventsOnly ch held) (out : st.placing = none) : HeldFacts ch st false held := by
  refine ⟨nofun, ⟨Nat.le_succ_of_le h.length_le, h.1⟩, fun r mem _ => h.2 r mem,
    fun r mem => h.tailState r (List.dropLast_subset _ mem), ?_⟩
  rw [out]
  cases last : held.getLast? with
  | none => rfl
  | some r => exact h.tailState r (List.mem_of_getLast? last)

/-- With one, last of all. -/
theorem of_tail {r : Report} (h : EventsOnly ch held) (tail : r.tailState = some st) (placing : st.placing = some st) :
    HeldFacts ch st reset (held ++ [r]) := by
  have isTail : st = .reporting ∨ st = .rejecting := by
    unfold ChState.placing at placing
    split at placing
    next told => exact told
    next => cases placing
  refine ⟨fun _ => isTail, ⟨?_, ?_⟩, fun q mem none => ?_, ?_, ?_⟩
  · have := h.length_le
    rw [List.length_append, List.length_singleton]
    omega
  · refine nodup_concat h.1 fun mem => ?_
    rw [h.tailState r mem] at tail
    cases tail
  · rcases List.mem_append.mp mem with mem | mem
    · exact h.2 q mem
    · rw [List.mem_singleton.mp mem, tail] at none; cases none
  · rw [List.dropLast_concat]; exact h.tailState
  · rw [List.getLast?_concat, placing]; exact tail

/-- Where no tail report is held, there are events alone. -/
theorem events_only (h : HeldFacts ch st reset held) (out : st.placing = none) : EventsOnly ch held := by
  refine ⟨h.held.2, fun r mem => h.events r mem ?_⟩
  rcases List.eq_nil_or_concat held with rfl | ⟨init, last, rfl⟩
  · cases mem
  · have lastLaw := h.tailLast
    rw [out, List.concat_eq_append, List.getLast?_concat] at lastLaw
    rw [List.concat_eq_append] at mem
    rcases List.mem_append.mp mem with mem | mem
    · exact h.tail r (by rw [List.concat_eq_append, List.dropLast_concat]; exact mem)
    · rw [List.mem_singleton.mp mem]; exact lastLaw

/-- A tail report stands behind events alone. -/
theorem split (h : HeldFacts ch st reset held) (placing : st.placing = some st') :
    ∃ init last, held = init ++ [last] ∧ EventsOnly ch init ∧ last.tailState = some st' := by
  have lastLaw := h.tailLast
  rcases List.eq_nil_or_concat held with rfl | ⟨init, last, rfl⟩
  · rw [placing] at lastLaw; cases lastLaw
  · rw [List.concat_eq_append] at h lastLaw ⊢
    rw [placing, List.getLast?_concat] at lastLaw
    have none : ∀ r ∈ init, r.tailState = none := fun r mem => h.tail r (by rw [List.dropLast_concat]; exact mem)
    exact ⟨init, last, rfl, ⟨(List.nodup_append.mp h.held.2).1, fun r mem =>
      h.events r (List.mem_append_left _ mem) (none r mem)⟩, lastLaw⟩

theorem reset_eq_false (h : HeldFacts ch st reset held) (out : st.placing = none) : reset = false := by
  cases reset with
  | false => rfl
  | true =>
    rw [ChState.placing, if_pos (h.reset rfl)] at out
    cases out

end HeldFacts

/-! ### The Index Monitor -/

/-- A measured period raises the in-limit count by one at most (R92). -/
theorem Monitor.period_count_le (m : Monitor) (p periodMin periodMax : Nat) :
    (m.period p periodMin periodMax).count ≤ min 3 (m.count + 1) := by
  unfold Monitor.period
  dsimp only
  split
  · exact Nat.le_refl _
  · exact Nat.zero_le _

namespace MonitorRuns

variable {on : Bool} {m : Monitor}

theorem started (m : Monitor) (now p : Nat) : MonitorRuns true (m.started now p) :=
  ⟨rfl, ⟨Nat.zero_le _, Nat.zero_le _⟩, ⟨Nat.zero_le _, nofun⟩, nofun, rfl, nofun⟩

theorem stopped (m : Monitor) : MonitorRuns false m.stopped :=
  ⟨rfl, ⟨Nat.zero_le _, Nat.zero_le _⟩, ⟨Nat.zero_le _, nofun⟩, nofun, rfl, fun _ => ⟨rfl, rfl, rfl, rfl⟩⟩

theorem flagsCleared (h : MonitorRuns on m) : MonitorRuns on m.flagsCleared :=
  ⟨h.running, h.count, h.history, h.width, h.timer, h.off⟩

theorem resetTo (m : Monitor) (on : Bool) (now p : Nat) : MonitorRuns on (m.resetTo on now p) := by
  cases on with
  | true => exact (started m now p).flagsCleared
  | false => exact (stopped m).flagsCleared

theorem heldMicros_le (first second : Nat) : heldMicros first second ≤ Config.periodMaxHeld := Nat.min_le_left _ _

/-- A leading edge on a running monitor (R92). -/
theorem leadingEdge (h : MonitorRuns on m) (running : m.running = true) (set : Settings) (t now : Nat) :
    MonitorRuns on (m.leadingEdge set t now) := by
  have runs : on = true := h.running.symm.trans running
  unfold Monitor.leadingEdge
  cases measured : m.periodAt t with
  | none => exact ⟨h.running, h.count, h.history, h.width, running.symm, fun off => by rw [running] at off; cases off⟩
  | some p =>
    obtain ⟨e, -, rfl⟩ := Option.map_eq_some_iff.mp measured
    have count := h.count
    refine ⟨h.running, ?_, ⟨?_, fun q mem => ?_⟩, h.width, running.symm, fun off => ?_⟩
    · have most := m.period_count_le (heldMicros e t) set.periodMin set.periodMax
      have length : ((heldMicros e t :: m.history).take 4).length = min 4 (m.history.length + 1) := by
        rw [List.length_take, List.length_cons]
      show (m.period _ _ _).count ≤ 3 ∧ (m.period _ _ _).count ≤ ((heldMicros e t :: m.history).take 4).length
      omega
    · show ((heldMicros e t :: m.history).take 4).length ≤ 4
      rw [List.length_take]
      exact Nat.min_le_left _ _
    · rcases List.mem_cons.mp (List.mem_of_mem_take mem) with rfl | mem
      · exact heldMicros_le e t
      · exact h.history.2 q mem
    · change m.running = false at off
      rw [running] at off; cases off

/-- A trailing edge on a running monitor (R93). -/
theorem trailingEdge (h : MonitorRuns on m) (running : m.running = true) (set : Settings) (t : Nat) :
    MonitorRuns on (m.trailingEdge set t) := by
  unfold Monitor.trailingEdge
  split
  · exact h
  next e _ =>
    refine ⟨h.running, h.count, h.history, fun w width => ?_, h.timer, fun off => ?_⟩
    · cases width
      exact heldMicros_le e t
    · change m.running = false at off
      rw [running] at off; cases off

/-- An index timeout on a running monitor (R97). -/
theorem timedOut (h : MonitorRuns on m) (running : m.running = true) (now p : Nat) :
    MonitorRuns on (m.timedOut now p) :=
  ⟨h.running, ⟨Nat.zero_le _, Nat.zero_le _⟩, ⟨Nat.zero_le _, nofun⟩, h.width, running.symm, fun off => by
    change m.running = false at off; rw [running] at off; cases off⟩

end MonitorRuns

/-- The Index Monitor starts or stops with the motor on entering a state (R91). -/
theorem Channel.enter_monitorRuns {c : Channel} (h : MonitorRuns c.state.motor c.monitor) (st : ChState) (now : Nat) :
    MonitorRuns st.motor (c.enter st now).monitor := by
  unfold Channel.enter
  dsimp only
  split
  next same => rw [← same]; exact h
  next =>
    split
    next on => rw [on]; exact .started _ _ _
    next off => rw [(Bool.not_eq_true _).mp off]; exact .stopped _

theorem Channel.enter_monitor {c : Channel} {st : ChState} (same : c.state.motor = st.motor) (now : Nat) :
    (c.enter st now).monitor = c.monitor := if_pos same

theorem StableFacts.of_ne {st : ChState} {m : Monitor} (ready : st ≠ .ready) (spinup : st ≠ .spinup) : StableFacts st m :=
  ⟨fun e => absurd e ready, fun e => absurd e spinup⟩

end Sys2Proof.Machine
end

section
/-!
The ways on of a channel without a copy, each with the law at its end: SPINUP, READY, EMPTY, OFFLINE, SORTING, UNLOAD, JAMMED,
re-arm and the resets (sections 4.3, 4.7 and 4.8).
-/

namespace Sys2Proof.Machine

namespace Channel

/-- A channel that may be led on: nothing of a copy, of a strobe, of an unload or of a held reset is left, and the held reports
are events alone. -/
structure Free (ch : ChannelNo) (c : Channel) : Prop where
  copy    : CopyFacts .offline c.cursor c.attempt c.lines.writeGate c.recoveryTimer c.stepTimer c.settleTimer
    c.pendingRecord.isSome
  sort    : c.sortTimer = none ∧ c.ejectTimer = none ∧ c.strobeSort = none ∧ c.removalNoted = false
  strobe  : c.lines.accept = false ∧ c.lines.reject = false
  reset   : c.resetHeld = false
  held    : EventsOnly ch c.held
  monitor : MonitorRuns c.state.motor c.monitor

variable {ch : ChannelNo} {c : Channel} {now : Nat}

theorem motor_of_ready_or_spinup {st : ChState} (h : st = .ready ∨ st = .spinup) : st.motor = true := by
  rcases h with rfl | rfl <;> rfl

theorem isCopy_of_placing {st : ChState} (h : st = .reporting ∨ st = .rejecting) : st.isCopy = false := by
  rcases h with rfl | rfl <;> rfl

/-- Outside SORTING and UNLOAD nothing of either is left. -/
theorem Inner.sort_off (h : c.Inner ch) (sorting : c.state ≠ .sorting) (unload : c.state ≠ .unload) :
    (c.sortTimer = none ∧ c.ejectTimer = none ∧ c.strobeSort = none ∧ c.removalNoted = false) ∧
      c.lines.accept = false ∧ c.lines.reject = false := by
  have sort := h.sort
  have strobe : c.strobeSort = none := by
    have := sort.strobe; rw [beq_eq_false_iff_ne.mpr sorting] at this; simpa using this
  have delay : c.sortTimer = none := by
    have := sort.sort; rw [beq_eq_false_iff_ne.mpr sorting] at this; simpa using this
  have eject : c.ejectTimer = none := by
    have := sort.eject; rw [beq_eq_false_iff_ne.mpr unload] at this; simpa using this
  have accept : c.lines.accept = false := by
    refine Bool.eq_false_iff.mpr fun on => ?_
    have := sort.accept on; rw [strobe] at this; cases this
  have reject : c.lines.reject = false := by
    refine Bool.eq_false_iff.mpr fun on => ?_
    have := sort.reject on; rw [strobe] at this; cases this
  have removal : c.removalNoted = false := by
    refine Bool.eq_false_iff.mpr fun on => ?_
    have := sort.removal on; rw [accept, reject] at this; cases this
  exact ⟨⟨delay, eject, strobe, removal⟩, accept, reject⟩

/-- In OFFLINE, EMPTY, SPINUP, READY, STOPPED and JAMMED a channel may be led on. -/
theorem Inner.free (h : c.Inner ch) (off : c.state.isCopy = false) (told : c.state.placing = none)
    (sorting : c.state ≠ .sorting) (unload : c.state ≠ .unload) : c.Free ch := by
  obtain ⟨sort, strobe⟩ := h.sort_off sorting unload
  exact ⟨h.copy.rest off rfl, sort, strobe, h.held.reset_eq_false told, h.held.events_only told, h.monitor⟩

/-- The idle timer runs in READY alone. -/
theorem Inner.idleTimer_eq_none (h : c.Inner ch) (st : c.state ≠ .ready) : c.idleTimer = none := by
  cases timer : c.idleTimer with
  | none => rfl
  | some n => exact absurd (h.sort.idle (by rw [timer]; rfl)) st

theorem Inner.spinUpTimer_eq_none (h : c.Inner ch) (st : c.state ≠ .spinup) : c.spinUpTimer = none := by
  have := h.sort.spinUp
  rw [beq_eq_false_iff_ne.mpr st] at this
  simpa using this

/-- The facts of a copy say nothing in a state without one. -/
theorem Free.copyFacts (h : c.Free ch) {st : ChState} (off : st.isCopy = false) :
    CopyFacts st c.cursor c.attempt c.lines.writeGate c.recoveryTimer c.stepTimer c.settleTimer c.pendingRecord.isSome :=
  h.copy.rest rfl off

/-! ### SPINUP, READY and REJECTING (R67, R68, R82) -/

theorem Free.enterReady (h : c.Free ch) (on : c.state.motor = true) (stable : c.monitor.stable = true) :
    (c.enterReady now).Inner ch := by
  obtain ⟨⟨delay, eject, strobe, removal⟩, accept, reject⟩ := And.intro h.sort h.strobe
  have same : (c.enter .ready now).monitor = c.monitor := enter_monitor on now
  refine ⟨h.copyFacts rfl, ?_, ?_, enter_monitorRuns h.monitor .ready now, fun _ => ?_, nofun⟩
  · show SortFacts .ready none _ c.sortTimer c.ejectTimer c.strobeSort c.lines.accept c.lines.reject c.removalNoted
    rw [delay, eject, strobe, removal, accept, reject]
    exact ⟨rfl, fun _ => rfl, rfl, rfl, rfl, nofun, nofun, nofun⟩
  · show HeldFacts ch .ready c.resetHeld c.held
    rw [h.reset]
    exact .of_events h.held rfl
  · show (c.enter .ready now).monitor.stable = true
    rw [same]
    exact stable

theorem Free.enterRejecting (h : c.Free ch) (idle : c.idleTimer = none) {ev : ChannelEvent}
    (tail : (Report.channelEvent ch ev).tailState = some .rejecting) : (c.enterRejecting ch ev now).Inner ch := by
  obtain ⟨⟨delay, eject, strobe, removal⟩, accept, reject⟩ := And.intro h.sort h.strobe
  refine ⟨h.copyFacts rfl, ?_, ?_, enter_monitorRuns h.monitor .rejecting now, nofun, nofun⟩
  · show SortFacts .rejecting none c.idleTimer c.sortTimer c.ejectTimer c.strobeSort c.lines.accept c.lines.reject
      c.removalNoted
    rw [idle, delay, eject, strobe, removal, accept, reject]
    exact .quiet nofun nofun nofun
  · exact .of_tail h.held tail rfl

theorem Free.stableInSpinup (h : c.Free ch) (on : c.state.motor = true) (stable : c.monitor.stable = true)
    (idle : c.idleTimer = none) : (c.stableInSpinup ch now).Inner ch := by
  unfold Channel.stableInSpinup
  split
  · exact h.enterRejecting idle rfl
  · exact h.enterReady on stable

theorem Free.enterSpinup (h : c.Free ch) : (c.enterSpinup ch now).Inner ch := by
  obtain ⟨⟨delay, eject, strobe, removal⟩, accept, reject⟩ := And.intro h.sort h.strobe
  have monitor := enter_monitorRuns h.monitor .spinup now
  have free : Free ch { c.enter .spinup now with idleTimer := none, spinUpTimer := some (now + Config.spinUpNs) } :=
    ⟨h.copy, h.sort, h.strobe, h.reset, h.held, monitor⟩
  unfold Channel.enterSpinup
  dsimp only
  split
  next stable => exact free.stableInSpinup rfl stable rfl
  next unstable =>
    refine ⟨h.copyFacts rfl, ?_, ?_, monitor, nofun, fun _ => (Bool.not_eq_true _).mp unstable⟩
    · show SortFacts .spinup (some _) none c.sortTimer c.ejectTimer c.strobeSort c.lines.accept c.lines.reject
        c.removalNoted
      rw [delay, eject, strobe, removal, accept, reject]
      exact ⟨rfl, nofun, rfl, rfl, rfl, nofun, nofun, nofun⟩
    · show HeldFacts ch .spinup c.resetHeld c.held
      rw [h.reset]
      exact .of_events h.held rfl

/-- Entering SPINUP a channel is in SPINUP, READY or REJECTING, with its settings and lines as before. -/
theorem stableInSpinup_state (c : Channel) (ch : ChannelNo) (now : Nat) :
    ((c.stableInSpinup ch now).state = .ready ∨ (c.stableInSpinup ch now).state = .rejecting) ∧
      (c.stableInSpinup ch now).active = c.active ∧ (c.stableInSpinup ch now).lines = c.lines ∧
      (c.stableInSpinup ch now).removalNoted = c.removalNoted := by
  unfold Channel.stableInSpinup
  split
  · exact ⟨.inr rfl, rfl, rfl, rfl⟩
  · exact ⟨.inl rfl, rfl, rfl, rfl⟩

theorem enterSpinup_state (c : Channel) (ch : ChannelNo) (now : Nat) :
    ((c.enterSpinup ch now).state = .spinup ∨ (c.enterSpinup ch now).state = .ready ∨
      (c.enterSpinup ch now).state = .rejecting) ∧ (c.enterSpinup ch now).active = c.active ∧
      (c.enterSpinup ch now).lines = c.lines ∧ (c.enterSpinup ch now).removalNoted = c.removalNoted := by
  unfold Channel.enterSpinup
  dsimp only
  split
  · obtain ⟨state, same⟩ := stableInSpinup_state
      { c.enter .spinup now with idleTimer := none, spinUpTimer := some (now + Config.spinUpNs) } ch now
    exact ⟨.inr state, same⟩
  · exact ⟨.inl rfl, rfl, rfl, rfl⟩

end Channel

/-- In SPINUP, READY and REJECTING an enabled channel with the media in goes with both. -/
theorem spinningFacts {st : ChState} (h : st = .spinup ∨ st = .ready ∨ st = .rejecting) (noted : Bool) :
    EnabledFacts st true ∧ MediaFacts st true noted := by
  rcases h with rfl | rfl | rfl <;> exact ⟨⟨nofun, fun _ => rfl⟩, fun _ => rfl, fun _ _ => rfl, nofun⟩

namespace Channel

variable {ch : ChannelNo} {c : Channel} {now : Nat}

theorem Free.enterSpinup_law (h : c.Free ch) (enabled : c.active.enabled = true) (media : c.lines.mediaPresent = true) :
    ChannelLaw ch (c.enterSpinup ch now) := by
  obtain ⟨state, active, lines, removal⟩ := c.enterSpinup_state ch now
  rw [channelLaw_iff, active, lines, enabled, media]
  exact ⟨h.enterSpinup, spinningFacts state _⟩

theorem Free.stableInSpinup_law (h : c.Free ch) (on : c.state.motor = true) (stable : c.monitor.stable = true)
    (idle : c.idleTimer = none) (enabled : c.active.enabled = true) (media : c.lines.mediaPresent = true) :
    ChannelLaw ch (c.stableInSpinup ch now) := by
  obtain ⟨state, active, lines, removal⟩ := c.stableInSpinup_state ch now
  rw [channelLaw_iff, active, lines, enabled, media]
  exact ⟨h.stableInSpinup on stable idle, spinningFacts (.inr state) _⟩

/-! ### EMPTY, STOPPED and OFFLINE (R66, R69, R87) -/

theorem Free.leaveFor (h : c.Free ch) {st : ChState} (off : st.isCopy = false ∧ st.placing = none)
    (quiet : st ≠ .spinup ∧ st ≠ .sorting ∧ st ≠ .unload) (ready : st ≠ .ready) : (c.leaveFor st now).Inner ch := by
  obtain ⟨⟨delay, eject, strobe, removal⟩, accept, reject⟩ := And.intro h.sort h.strobe
  obtain ⟨spinup, sorting, unload⟩ := quiet
  refine ⟨h.copyFacts off.1, ?_, ?_, enter_monitorRuns h.monitor st now, .of_ne ready spinup⟩
  · show SortFacts st none none c.sortTimer c.ejectTimer c.strobeSort c.lines.accept c.lines.reject c.removalNoted
    rw [delay, eject, strobe, removal, accept, reject]
    exact .quiet spinup sorting unload
  · show HeldFacts ch st c.resetHeld c.held
    rw [h.reset]
    exact .of_events h.held off.2

theorem Free.leaveForEmpty_law (h : c.Free ch) (enabled : c.active.enabled = true) (media : c.lines.mediaPresent = false) :
    ChannelLaw ch (c.leaveFor .empty now) :=
  channelLaw_iff.mpr ⟨h.leaveFor ⟨rfl, rfl⟩ ⟨nofun, nofun, nofun⟩ nofun, ⟨nofun, fun _ => enabled⟩, by
    refine ⟨fun st => ?_, nofun, fun _ => media⟩
    rcases st with st | st | st | st | st | st <;> cases st⟩

theorem Free.leaveForOffline_law (h : c.Free ch) (enabled : c.active.enabled = false) :
    ChannelLaw ch (c.leaveFor .offline now) :=
  channelLaw_iff.mpr ⟨h.leaveFor ⟨rfl, rfl⟩ ⟨nofun, nofun, nofun⟩ nofun, ⟨fun _ => enabled, fun st => by
    rcases st with st | st | st | st <;> cases st⟩, by
    refine ⟨fun st => ?_, nofun, nofun⟩
    rcases st with st | st | st | st | st | st <;> cases st⟩

theorem Free.enterEmptyOrSpinup_law (h : c.Free ch) (enabled : c.active.enabled = true) :
    ChannelLaw ch (c.enterEmptyOrSpinup ch now) := by
  unfold Channel.enterEmptyOrSpinup
  dsimp only
  split
  next media =>
    have free : (c.leaveFor .empty now).Free ch :=
      ⟨h.copy, h.sort, h.strobe, h.reset, h.held, enter_monitorRuns h.monitor .empty now⟩
    exact free.enterSpinup_law enabled media
  next media => exact h.leaveForEmpty_law enabled ((Bool.not_eq_true _).mp media)

/-- The held reset is done (R88). -/
theorem Free.goOn_law (h : ({ c with resetHeld := false } : Channel).Free ch) : ChannelLaw ch (c.goOn ch now) := by
  unfold Channel.goOn
  dsimp only
  split
  next enabled =>
    split
    next media => exact h.enterSpinup_law enabled media
    next media => exact h.leaveForEmpty_law enabled ((Bool.not_eq_true _).mp media)
  next enabled => exact h.leaveForOffline_law ((Bool.not_eq_true _).mp enabled)

/-- The enabled field of both records is no concern of what is inner. -/
theorem Inner.setEnabled (h : c.Inner ch) (yes : Bool) : (c.setEnabled yes).Inner ch := by
  refine ⟨?_, h.sort, h.held, h.monitor, h.stable⟩
  show CopyFacts _ _ _ _ _ _ _ (c.pendingRecord.map _).isSome
  rw [Option.isSome_map]
  exact h.copy

theorem Free.setEnabled (h : c.Free ch) (yes : Bool) : (c.setEnabled yes).Free ch := by
  refine ⟨?_, h.sort, h.strobe, h.reset, h.held, h.monitor⟩
  show CopyFacts _ _ _ _ _ _ _ (c.pendingRecord.map _).isSome
  rw [Option.isSome_map]
  exact h.copy

/-- Re-arm clears what is left of sorting and unload (R85). -/
theorem Free.rearm_law
    (h : ({ c with
      sortTimer := none, ejectTimer := none, removalNoted := false, strobeSort := none
      lines := { c.lines with accept := false, reject := false } } : Channel).Free ch) :
    ChannelLaw ch (c.rearm ch now) := by
  unfold Channel.rearm
  dsimp only
  split
  next yes => exact h.enterEmptyOrSpinup_law (Bool.and_eq_true_iff.mp yes).1
  next => exact (h.setEnabled false).leaveForOffline_law rfl

/-! ### SORTING and UNLOAD (R83, R84) -/

theorem Free.enterSorting_law (h : c.Free ch) (idle : c.idleTimer = none) (spin : c.spinUpTimer = none)
    (media : c.lines.mediaPresent = true) (sort : Strobe) : ChannelLaw ch (c.enterSorting sort now) := by
  obtain ⟨⟨delay, eject, strobe, removal⟩, accept, reject⟩ := And.intro h.sort h.strobe
  have held : HeldFacts ch .sorting c.resetHeld c.held := by rw [h.reset]; exact .of_events h.held rfl
  have monitor := enter_monitorRuns h.monitor .sorting now
  have facts : EnabledFacts .sorting c.active.enabled ∧ MediaFacts .sorting c.lines.mediaPresent false :=
    ⟨⟨nofun, fun st => by rcases st with st | st | st | st <;> cases st⟩, fun _ => media, fun _ _ => media, nofun⟩
  have timers (accepts rejects : Bool) (ok : accepts = true → sort = .accept) (ok' : rejects = true → sort = .reject)
      (t : Nat) : SortFacts .sorting c.spinUpTimer c.idleTimer (some t) c.ejectTimer (some sort) accepts rejects false := by
    rw [idle, spin, eject]
    exact ⟨rfl, nofun, rfl, rfl, rfl, fun on => congrArg some (ok on), fun on => congrArg some (ok' on), nofun⟩
  rw [channelLaw_iff]
  unfold Channel.enterSorting
  dsimp only
  split
  · refine ⟨⟨h.copyFacts rfl, timers _ _ ?_ ?_ _, held, monitor, .of_ne nofun nofun⟩, facts⟩
    · exact fun on => Option.some.inj (beq_iff_eq.mp on)
    · exact fun on => Option.some.inj (beq_iff_eq.mp on)
  · refine ⟨⟨h.copyFacts rfl, timers _ _ ?_ ?_ _, held, monitor, .of_ne nofun nofun⟩, facts⟩
    · exact fun on => absurd (accept.symm.trans on) nofun
    · exact fun on => absurd (reject.symm.trans on) nofun

/-- In SORTING, UNLOAD and JAMMED a channel may be led on once the strobe and the unload are over. -/
theorem Inner.free_sorted (h : c.Inner ch) (off : c.state.isCopy = false) (told : c.state.placing = none) :
    ({ c with
      sortTimer := none, ejectTimer := none, removalNoted := false, strobeSort := none
      lines := { c.lines with accept := false, reject := false } } : Channel).Free ch :=
  ⟨h.copy.rest off rfl, ⟨rfl, rfl, rfl, rfl⟩, ⟨rfl, rfl⟩, h.held.reset_eq_false told, h.held.events_only told, h.monitor⟩

theorem endStrobe_law (h : ChannelLaw ch c) (st : c.state = .sorting) : ChannelLaw ch (c.endStrobe ch now) := by
  have free := h.inner.free_sorted (by rw [st]; rfl) (by rw [st]; rfl)
  unfold Channel.endStrobe
  split
  · exact free.rearm_law
  next removal =>
    have media := h.mediaFacts.sorting st ((Bool.not_eq_true _).mp removal)
    rw [channelLaw_iff]
    refine ⟨⟨free.copyFacts rfl, ?_, ?_, enter_monitorRuns h.inner.monitor .unload now, .of_ne nofun nofun⟩,
      ⟨nofun, fun st => by rcases st with st | st | st | st <;> cases st⟩, fun _ => media, nofun, nofun⟩
    · show SortFacts .unload c.spinUpTimer c.idleTimer none (some _) none false false c.removalNoted
      rw [h.inner.spinUpTimer_eq_none (by rw [st]; nofun), h.inner.idleTimer_eq_none (by rw [st]; nofun),
        (Bool.not_eq_true _).mp removal]
      exact ⟨rfl, nofun, rfl, rfl, rfl, nofun, nofun, nofun⟩
    · show HeldFacts ch .unload c.resetHeld c.held
      rw [h.inner.held.reset_eq_false (by rw [st]; rfl)]
      exact .of_events free.held rfl

/-- The tail report has been handed over, and with it goes whatever was held (R80 to R82). -/
theorem Inner.free_told (h : c.Inner ch) (told : c.state = .reporting ∨ c.state = .rejecting) (copy : Option CopyRecord) :
    ({ c with held := [], copy := copy, resetHeld := false } : Channel).Free ch := by
  have not {st : ChState} (ne : st ≠ .reporting) (ne' : st ≠ .rejecting) : c.state ≠ st := by
    rintro rfl
    rcases told with e | e
    · exact ne e
    · exact ne' e
  obtain ⟨sort, strobe⟩ := h.sort_off (not (st := .sorting) nofun nofun) (not (st := .unload) nofun nofun)
  exact ⟨h.copy.rest (isCopy_of_placing told) rfl, sort, strobe, rfl, .nil, h.monitor⟩

end Channel

end Sys2Proof.Machine
end

section
/-!
Every event of one channel keeps the law of the channel.
-/

namespace Sys2Proof.Machine

namespace Channel

variable {ch : ChannelNo} {c d : Channel} {now : Nat}

/-! ### A placed tail report (R81, R82) -/

/-- With no reset held, a channel that has handed its tail report over may be led on as it is. -/
theorem Inner.free_told_plain (h : c.Inner ch) (told : c.state = .reporting ∨ c.state = .rejecting)
    (copy : Option CopyRecord) (reset : c.resetHeld = false) : ({ c with held := [], copy := copy } : Channel).Free ch := by
  obtain ⟨copyFacts, sort, strobe, -, held, monitor⟩ := h.free_told told copy
  exact ⟨copyFacts, sort, strobe, reset, held, monitor⟩

theorem Inner.no_timers_told (h : c.Inner ch) (told : c.state = .reporting ∨ c.state = .rejecting) :
    c.idleTimer = none ∧ c.spinUpTimer = none := by
  refine ⟨h.idleTimer_eq_none ?_, h.spinUpTimer_eq_none ?_⟩ <;> rcases told with st | st <;> rw [st] <;> nofun

theorem Inner.afterEvent_law (h : c.Inner ch) (told : c.state = .reporting ∨ c.state = .rejecting) :
    ChannelLaw ch (({ c with held := [] } : Channel).afterEvent ch now) := by
  obtain ⟨idle, spin⟩ := h.no_timers_told told
  unfold afterEvent
  split
  · exact (h.free_told told c.copy).goOn_law
  next reset =>
    have free := h.free_told_plain told c.copy ((Bool.not_eq_true _).mp reset)
    split
    next media => exact free.enterSorting_law idle spin media .reject
    next =>
      have cleared : Free ch { c with
          held := [], sortTimer := none, ejectTimer := none, removalNoted := false, strobeSort := none
          lines := { c.lines with accept := false, reject := false } } :=
        ⟨free.copy, ⟨rfl, rfl, rfl, rfl⟩, ⟨rfl, rfl⟩, free.reset, free.held, free.monitor⟩
      exact cleared.rearm_law (c := { c with held := [] })

theorem Inner.afterResult_law (h : c.Inner ch) (told : c.state = .reporting ∨ c.state = .rejecting)
    (sort : Option Strobe) : ChannelLaw ch (({ c with held := [], copy := none } : Channel).afterResult ch sort now) := by
  obtain ⟨idle, spin⟩ := h.no_timers_told told
  unfold afterResult
  split
  · exact (h.free_told told none).goOn_law
  next reset =>
    have free := h.free_told_plain told none ((Bool.not_eq_true _).mp reset)
    have rearms : ChannelLaw ch (({ c with held := [], copy := none } : Channel).rearm ch now) := by
      have cleared : Free ch { c with
          held := [], copy := none, sortTimer := none, ejectTimer := none, removalNoted := false, strobeSort := none
          lines := { c.lines with accept := false, reject := false } } :=
        ⟨free.copy, ⟨rfl, rfl, rfl, rfl⟩, ⟨rfl, rfl⟩, free.reset, free.held, free.monitor⟩
      exact cleared.rearm_law (c := { c with held := [], copy := none })
    split
    · exact rearms
    next st =>
      split
      next media => exact free.enterSorting_law idle spin media st
      next => exact rearms

/-! ### A copy in progress -/

/-- What does not belong to a copy is as before. -/
structure Alike (c d : Channel) : Prop where
  spinUp  : d.spinUpTimer = c.spinUpTimer
  idle    : d.idleTimer = c.idleTimer
  sort    : d.sortTimer = c.sortTimer
  eject   : d.ejectTimer = c.ejectTimer
  strobe  : d.strobeSort = c.strobeSort
  accept  : d.lines.accept = c.lines.accept
  reject  : d.lines.reject = c.lines.reject
  removal : d.removalNoted = c.removalNoted
  reset   : d.resetHeld = c.resetHeld
  held    : d.held = c.held
  monitor : d.monitor = c.monitor
  media   : d.lines.mediaPresent = c.lines.mediaPresent

theorem motor_of_isCopy {st : ChState} (h : st.isCopy = true) : st.motor = true := by
  cases st <;> cases h <;> rfl

theorem placing_of_isCopy {st : ChState} (h : st.isCopy = true) : st.placing = none := by
  cases st <;> cases h <;> rfl

theorem ne_of_isCopy {st st' : ChState} (h : st.isCopy = true) (h' : st'.isCopy = false) : st ≠ st' := by
  rintro rfl; rw [h'] at h; cases h

/-- No timer of the states without a copy runs in a copy state. -/
theorem Inner.timers_off (h : c.Inner ch) (copying : c.state.isCopy = true) :
    (c.spinUpTimer = none ∧ c.idleTimer = none) ∧
      (c.sortTimer = none ∧ c.ejectTimer = none ∧ c.strobeSort = none ∧ c.removalNoted = false) ∧
      c.lines.accept = false ∧ c.lines.reject = false :=
  ⟨⟨h.spinUpTimer_eq_none (ne_of_isCopy copying rfl), h.idleTimer_eq_none (ne_of_isCopy copying rfl)⟩,
    h.sort_off (ne_of_isCopy copying rfl) (ne_of_isCopy copying rfl)⟩

/-- A channel goes on in its copy, with what does not belong to it as before. -/
theorem copying_law (h : ChannelLaw ch c) (before : c.state.isCopy = true) (alike : c.Alike d)
    (after : d.state.isCopy = true) (copy : d.CopyOk) : ChannelLaw ch d := by
  obtain ⟨⟨spin, idle⟩, ⟨delay, eject, strobe, removal⟩, accept, reject⟩ := h.inner.timers_off before
  have media : c.lines.mediaPresent = true := h.mediaFacts.media (.inr (.inr (.inr (.inr (.inr before)))))
  rw [channelLaw_iff]
  refine ⟨⟨copy, ?_, ?_, ?_, .of_ne (ne_of_isCopy after rfl) (ne_of_isCopy after rfl)⟩, ⟨fun st => ?_, fun st => ?_⟩,
    fun _ => alike.media.trans media, fun st => ?_, fun st => ?_⟩
  · unfold SortOk
    rw [alike.spinUp, alike.idle, alike.sort, alike.eject, alike.strobe, alike.accept, alike.reject, alike.removal, spin,
      idle, delay, eject, strobe, removal, accept, reject]
    exact .quiet (ne_of_isCopy after rfl) (ne_of_isCopy after rfl) (ne_of_isCopy after rfl)
  · have events := h.inner.held.events_only (placing_of_isCopy before)
    rw [alike.reset, h.inner.held.reset_eq_false (placing_of_isCopy before), alike.held]
    exact .of_events events (placing_of_isCopy after)
  · rw [alike.monitor, motor_of_isCopy after, ← motor_of_isCopy before]
    exact h.inner.monitor
  · exact absurd st (ne_of_isCopy after rfl)
  · rcases st with st | st | st | st <;> exact absurd st (ne_of_isCopy after rfl)
  · exact absurd st (ne_of_isCopy after rfl)
  · exact absurd st (ne_of_isCopy after rfl)

end Channel

/-- In a copy state without an attempt. -/
theorem CopyFacts.untried {st : ChState} {track : Option Nat} {recover step settle : Timer} {waits : Bool}
    (copying : st.isCopy = true) (idle : st ≠ .writing ∧ st ≠ .verifying) (cursor : track.isSome = true)
    (stepping : step.isSome = (st == .recalibrating || (st == .seeking && settle.isNone)))
    (settling : settle.isSome = true → st = .seeking) : CopyFacts st track none false recover step settle waits :=
  ⟨cursor.trans copying.symm, by rw [beq_eq_false_iff_ne.mpr idle.1, beq_eq_false_iff_ne.mpr idle.2]; rfl, nofun, nofun,
    ⟨nofun, fun ⟨_, e, _⟩ => by cases e⟩, fun _ => copying, stepping, settling, fun _ => copying⟩

/-- With an attempt, in WRITING or VERIFYING. -/
theorem CopyFacts.trying {st : ChState} {track : Option Nat} {a : Attempt} {on : Bool} {recover : Timer} {waits : Bool}
    (working : st = .writing ∨ st = .verifying) (cursor : track.isSome = true) (phase : a.phase = .read ↔ st = .verifying)
    (position : a.writeBegan.isSome = (a.phase != .delay) ∧ a.writeEnded.isSome = (a.phase == .read) ∧
      (a.lastCheck = true → a.phase ≠ .delay)) (gate : on = true ↔ a.phase = .write) :
    CopyFacts st track (some a) on recover none none waits := by
  have copying : st.isCopy = true := by rcases working with rfl | rfl <;> rfl
  refine ⟨cursor.trans copying.symm, ?_, fun b e => ?_, fun b e => ?_, ⟨fun h => ⟨a, rfl, gate.mp h⟩, fun ⟨b, e, h⟩ => ?_⟩,
    fun _ => copying, ?_, nofun, fun _ => copying⟩
  · rcases working with rfl | rfl <;> rfl
  · cases e; exact phase
  · cases e; exact position
  · cases e; exact gate.mpr h
  · rcases working with rfl | rfl <;> rfl

namespace CopyFacts

variable {st : ChState} {track : Option Nat} {tried : Option Attempt} {on : Bool} {recover step settle : Timer}
  {waits : Bool}

/-- Outside WRITING and VERIFYING there is no attempt, and WRITE GATE is off. -/
theorem no_attempt (h : CopyFacts st track tried on recover step settle waits) (idle : st ≠ .writing ∧ st ≠ .verifying) :
    tried = none ∧ on = false := by
  have none : tried = none := by
    have := h.attempt
    rw [beq_eq_false_iff_ne.mpr idle.1, beq_eq_false_iff_ne.mpr idle.2] at this
    simpa using this
  subst none
  exact ⟨rfl, Bool.eq_false_iff.mpr fun gate => by obtain ⟨a, e, -⟩ := h.gate.mp gate; cases e⟩

/-- Outside RECALIBRATING and SEEKING the head stands still. -/
theorem still (h : CopyFacts st track tried on recover step settle waits) (idle : st ≠ .recalibrating ∧ st ≠ .seeking) :
    step = none ∧ settle = none := by
  have stands : settle = none := by
    cases timer : settle with
    | none => rfl
    | some n => exact absurd (h.settling (by rw [timer]; rfl)) idle.2
  have steps := h.stepping
  rw [beq_eq_false_iff_ne.mpr idle.1, beq_eq_false_iff_ne.mpr idle.2] at steps
  exact ⟨by simpa using steps, stands⟩

theorem cursor_isSome (h : CopyFacts st track tried on recover step settle waits) (copying : st.isCopy = true) :
    track.isSome = true := h.cursor.trans copying

end CopyFacts

namespace Channel

variable {ch : ChannelNo} {c d : Channel} {now : Nat}

/-- Stepping or settling in SEEKING. -/
theorem seekOn_copyOk (st : c.state = .seeking) (cursor : c.cursor.isSome = true) (attempt : c.attempt = none)
    (gate : c.lines.writeGate = false) (settle : c.settleTimer = none) (target head : Nat) :
    (c.seekOn target head now).CopyOk := by
  have steps (y : Option Nat) : ({ c.pulse now with cylinder := y } : Channel).CopyOk := by
    show CopyFacts c.state c.cursor c.attempt c.lines.writeGate c.recoveryTimer (some _) c.settleTimer
      c.pendingRecord.isSome
    rw [st, attempt, gate, settle]
    exact .untried rfl ⟨nofun, nofun⟩ cursor rfl nofun
  have settles : (c.startSettle head now).CopyOk := by
    show CopyFacts c.state c.cursor c.attempt c.lines.writeGate c.recoveryTimer none (some _) c.pendingRecord.isSome
    rw [st, attempt, gate]
    exact .untried rfl ⟨nofun, nofun⟩ cursor rfl fun _ => rfl
  unfold seekOn
  split
  · exact settles
  · split
    · exact steps _
    · split
      · exact steps _
      · exact settles

theorem seekOn_alike (c : Channel) (target head now : Nat) : c.Alike (c.seekOn target head now) := by
  unfold seekOn
  split
  · constructor <;> rfl
  · split
    · constructor <;> rfl
    · split <;> constructor <;> rfl

theorem Alike.trans {e : Channel} (h : c.Alike d) (g : d.Alike e) : c.Alike e :=
  ⟨g.spinUp.trans h.spinUp, g.idle.trans h.idle, g.sort.trans h.sort, g.eject.trans h.eject, g.strobe.trans h.strobe,
    g.accept.trans h.accept, g.reject.trans h.reject, g.removal.trans h.removal, g.reset.trans h.reset,
    g.held.trans h.held, g.monitor.trans h.monitor, g.media.trans h.media⟩

/-- A channel that goes to another copy state keeps what does not belong to the copy. -/
theorem enter_alike (c : Channel) {st : ChState} (before : c.state.isCopy = true) (after : st.isCopy = true) (now : Nat) :
    c.Alike (c.enter st now) :=
  ⟨rfl, rfl, rfl, rfl, rfl, rfl, rfl, rfl, rfl, rfl, enter_monitor ((motor_of_isCopy before).trans
    (motor_of_isCopy after).symm) now, rfl⟩

/-- A seek begins in a copy that steps no more (R71, R74). -/
theorem enterSeeking_law (h : ChannelLaw ch c) (copying : c.state.isCopy = true) (alike : c.Alike d)
    (state : d.state.isCopy = true) (cursor : d.cursor.isSome = true) (attempt : d.attempt = none)
    (gate : d.lines.writeGate = false) (settle : d.settleTimer = none) (target head : Nat) :
    ChannelLaw ch (d.enterSeeking target head now) := by
  have still : d.Alike { d with recalSteps := 0, stepTimer := none } := by constructor <;> rfl
  have entered := enter_alike { d with recalSteps := 0, stepTimer := none } (st := .seeking) state rfl now
  have aimed : (({ d with recalSteps := 0, stepTimer := none } : Channel).enter .seeking now).Alike
      ((({ d with recalSteps := 0, stepTimer := none } : Channel).enter .seeking now).aim target) := by
    constructor <;> rfl
  have sought := (((alike.trans still).trans entered).trans aimed).trans (seekOn_alike _ target head now)
  have copy := seekOn_copyOk (now := now)
    (c := ((({ d with recalSteps := 0, stepTimer := none } : Channel).enter .seeking now).aim target)) rfl cursor attempt
    gate settle target head
  refine copying_law h copying sought ?_ copy
  show (Channel.seekOn _ target head now).state.isCopy = true
  rw [seekOn_state]
  rfl

/-- A copy ends, and its channel enters REPORTING with the COPY-RESULT behind what it held (R78, R80). -/
theorem Inner.ended_law (h : c.Inner ch) (copying : c.state.isCopy = true) (alike : c.Alike d)
    (state : d.state = c.state) (e : CopyEnd) (policy : SerialPolicy) : ChannelLaw ch (d.ended ch e policy now) := by
  obtain ⟨⟨spin, idle⟩, ⟨delay, eject, strobe, removal⟩, accept, reject⟩ := h.timers_off copying
  have events := h.held.events_only (placing_of_isCopy copying)
  have on : (d.ended ch e policy now).monitor = d.monitor :=
    enter_monitor (c := { d.dropAttempt with
      stepTimer := none, settleTimer := none, recoveryTimer := none, cursor := none
      copy := some ((d.copy.getD CopyRecord.blank).decided e d policy) })
      (st := .reporting) (motor_of_isCopy (state ▸ copying)) now
  rw [channelLaw_iff]
  refine ⟨⟨?_, ?_, ?_, ?_, .of_ne nofun nofun⟩, ⟨nofun, fun st => ?_⟩, fun st => ?_, nofun, nofun⟩
  · exact ⟨rfl, rfl, nofun, nofun, ⟨nofun, fun ⟨_, e, _⟩ => by cases e⟩, nofun, rfl, nofun, nofun⟩
  · show SortFacts .reporting d.spinUpTimer d.idleTimer d.sortTimer d.ejectTimer d.strobeSort d.lines.accept d.lines.reject
      d.removalNoted
    rw [alike.spinUp, alike.idle, alike.sort, alike.eject, alike.strobe, alike.accept, alike.reject, alike.removal, spin,
      idle, delay, eject, strobe, removal, accept, reject]
    exact .quiet nofun nofun nofun
  · show HeldFacts ch .reporting d.resetHeld (d.held ++ [_])
    rw [alike.held]
    exact .of_tail events rfl rfl
  · have runs := h.monitor
    rw [motor_of_isCopy copying] at runs
    rw [on, alike.monitor]
    exact runs
  · rcases st with st | st | st | st <;> cases st
  · rcases st with st | st | st | st | st | st <;> cases st

/-- A failed attempt takes the channel back to WAITING-INDEX (R75). -/
theorem attemptLost_law (h : ChannelLaw ch c)
    (st : c.state = .waitingIndex ∨ c.state = .writing ∨ c.state = .verifying) (detail : Option VerifyDetail) :
    ChannelLaw ch (c.attemptLost detail now) := by
  have copying : c.state.isCopy = true := by rcases st with st | st | st <;> rw [st] <;> rfl
  have stands : c.state ≠ .recalibrating ∧ c.state ≠ .seeking := by
    rcases st with st | st | st <;> rw [st] <;> exact ⟨nofun, nofun⟩
  obtain ⟨step, settle⟩ := h.inner.copy.still stands
  rw [attemptLost_eq c detail now (motor_of_isCopy copying)]
  refine copying_law h copying (by constructor <;> rfl) rfl ?_
  show CopyFacts .waitingIndex c.cursor none false c.recoveryTimer c.stepTimer c.settleTimer c.pendingRecord.isSome
  rw [step, settle]
  exact .untried rfl ⟨nofun, nofun⟩ (h.inner.copy.cursor_isSome copying) rfl nofun

end Channel

/-- What the event that fails a copy makes of its channel beforehand. -/
theorem Failing.inner {ch : ChannelNo} {c d : Channel} {now : Nat} (h : Failing now c d) (law : ChannelLaw ch c) : d.Inner ch := by
  cases h with
  | asItIs => exact law.inner
  | disabled => exact law.inner.setEnabled false
  | mediaGone =>
    obtain ⟨copy, sort, held, monitor, stable⟩ := law.inner
    exact ⟨copy, sort, held, monitor, stable⟩
  | attempt st detail => exact (Channel.attemptLost_law law st detail).inner

end Sys2Proof.Machine
end

section
/-!
Every step keeps the law of the drive channels: channel by channel, and with the attempt accounting of R75.
-/

namespace Sys2Proof.Machine

namespace Channel

variable {ch : ChannelNo} {c : Channel} {now : Nat}

theorem Alike.enter {d : Channel} {st : ChState} (h : c.Alike d) (before : d.state.isCopy = true)
    (after : st.isCopy = true) (now : Nat) : c.Alike (d.enter st now) :=
  h.trans (enter_alike d before after now)

theorem Inner.free_of (h : c.Inner ch) {st : ChState} (eq : c.state = st) (off : st.isCopy = false)
    (told : st.placing = none) (sorting : st ≠ .sorting) (unload : st ≠ .unload) : c.Free ch := by
  subst eq
  exact h.free off told sorting unload

/-! ### The Index Monitor's events -/

theorem Free.withMonitor (h : c.Free ch) {m : Monitor} (runs : MonitorRuns c.state.motor m) :
    ({ c with monitor := m } : Channel).Free ch :=
  ⟨h.copy, h.sort, h.strobe, h.reset, h.held, runs⟩

/-- Another reading of the monitor that leaves the channel in its state. -/
theorem withMonitor_law (h : ChannelLaw ch c) {m : Monitor} (runs : MonitorRuns c.state.motor m)
    (stable : StableFacts c.state m) : ChannelLaw ch { c with monitor := m } := by
  obtain ⟨⟨copy, sort, held, -, -⟩, enabled, media⟩ := channelLaw_iff.mp h
  exact channelLaw_iff.mpr ⟨⟨copy, sort, held, runs, stable⟩, enabled, media⟩

theorem measured_runs (h : c.Inner ch) (running : c.monitor.running = true) (t : Nat) :
    MonitorRuns c.state.motor (c.measured t now).monitor :=
  h.monitor.leadingEdge running c.active t now

theorem edgeMeasured_law (h : ChannelLaw ch c) (running : c.monitor.running = true) (t : Nat)
    (spinup : c.state = .spinup → stableReached c.monitor (c.measured t now).monitor = false)
    (ready : c.state = .ready → stableLost c.monitor (c.measured t now).monitor = false) :
    ChannelLaw ch (c.measured t now) := by
  refine withMonitor_law h (measured_runs h.inner running t) ⟨fun st => ?_, fun st => ?_⟩
  · have lost := ready st
    rw [stableLost, h.inner.stable.1 st] at lost
    simpa [measured] using lost
  · have reached := spinup st
    rw [stableReached, h.inner.stable.2 st] at reached
    simpa [measured] using reached

theorem edgeRecovers_law (h : ChannelLaw ch c) (copying : c.state.isCopy = true) (running : c.monitor.running = true)
    (t : Nat) (before after : Monitor) : ChannelLaw ch ((c.measured t now).recover before after now) := by
  have measured := edgeMeasured_law (now := now) h running t (fun st => absurd st (ne_of_isCopy copying rfl))
    fun st => absurd st (ne_of_isCopy copying rfl)
  have timed (timer : Timer) : ChannelLaw ch { c.measured t now with recoveryTimer := timer } := by
    obtain ⟨cursor, attempt, phase, position, gate, -, stepping, settling, waiting⟩ := measured.inner.copy
    exact copying_law measured copying (by constructor <;> rfl) copying
      ⟨cursor, attempt, phase, position, gate, fun _ => copying, stepping, settling, waiting⟩
  unfold recover
  split
  · exact timed none
  · split
    · exact timed (some _)
    · exact measured

theorem edgeTrails_law (h : ChannelLaw ch c) (running : c.monitor.running = true) (t : Nat) :
    ChannelLaw ch { c with monitor := c.monitor.trailingEdge c.active t } := by
  have same : (c.monitor.trailingEdge c.active t).stable = c.monitor.stable := by
    unfold Monitor.trailingEdge
    split <;> rfl
  refine withMonitor_law h (h.inner.monitor.trailingEdge running c.active t) ?_
  unfold StableFacts
  rw [same]
  exact h.inner.stable

theorem lapses_law (h : ChannelLaw ch c) (running : c.monitor.running = true)
    (other : ¬(c.state = .ready ∧ c.monitor.stable = true)) : ChannelLaw ch (c.lapsed now) :=
  withMonitor_law h (h.inner.monitor.timedOut running now _)
    ⟨fun st => absurd ⟨st, h.inner.stable.1 st⟩ other, fun _ => rfl⟩

/-! ### Settings, enable and disable -/

/-- What is inner, the drive's media and an enabled field of yes are enough where ENABLE acts (R66, R86). -/
theorem actEnable_law (h : c.Inner ch) (media : MediaFacts c.state c.lines.mediaPresent c.removalNoted)
    (enabled : c.active.enabled = true) : ChannelLaw ch (c.actEnable ch now) := by
  unfold actEnable
  split
  next off =>
    exact (h.free_of off rfl rfl nofun nofun).enterEmptyOrSpinup_law enabled
  next other => exact channelLaw_iff.mpr ⟨h, ⟨fun off => absurd off other, fun _ => enabled⟩, media⟩

/-- And an enabled field of no where DISABLE acts on a channel without a copy (R87). -/
theorem actDisable_law (h : c.Inner ch) (media : MediaFacts c.state c.lines.mediaPresent c.removalNoted)
    (enabled : c.active.enabled = false) : ChannelLaw ch (c.actDisable now) := by
  have leaves (out : c.state = .empty ∨ c.state = .spinup ∨ c.state = .ready ∨ c.state = .stopped) :
      ChannelLaw ch (c.leaveFor .offline now) := by
    rcases out with st | st | st | st <;>
      exact (h.free_of st rfl rfl nofun nofun).leaveForOffline_law enabled
  have stays (other : ¬(c.state = .empty ∨ c.state = .spinup ∨ c.state = .ready ∨ c.state = .stopped)) :
      ChannelLaw ch c := channelLaw_iff.mpr ⟨h, ⟨fun _ => enabled, fun out => absurd out other⟩, media⟩
  unfold actDisable
  split
  case h_1 st => exact leaves (.inl st)
  case h_2 st => exact leaves (.inr (.inl st))
  case h_3 st => exact leaves (.inr (.inr (.inl st)))
  case h_4 st => exact leaves (.inr (.inr (.inr st)))
  all_goals
    next st =>
    refine stays ?_
    rw [st]
    rintro (e | e | e | e) <;> cases e

theorem placeSettings_law (h : ChannelLaw ch c) (r : Settings) : ChannelLaw ch (c.placeSettings ch r now) := by
  obtain ⟨⟨copy, sort, held, monitor, stable⟩, enabled, media⟩ := channelLaw_iff.mp h
  unfold placeSettings
  dsimp only
  split
  next copying =>
    obtain ⟨cursor, attempt, phase, position, gate, recovery, stepping, settling, -⟩ := copy
    exact copying_law h copying (by constructor <;> rfl) copying
      ⟨cursor, attempt, phase, position, gate, recovery, stepping, settling, fun _ => copying⟩
  next off =>
    have inner : ({ c with active := r, pendingRecord := none } : Channel).Inner ch := by
      obtain ⟨cursor, attempt, phase, position, gate, recovery, stepping, settling, -⟩ := copy
      exact ⟨⟨cursor, attempt, phase, position, gate, recovery, stepping, settling, nofun⟩, sort, held, monitor, stable⟩
    split
    next same => exact channelLaw_iff.mpr ⟨inner, by rw [same] at enabled; exact enabled, media⟩
    next =>
      split
      next yes => exact actEnable_law inner media yes
      next no => exact actDisable_law inner media ((Bool.not_eq_true _).mp no)

/-! ### Resets -/

/-- What a reset clears can be led on, but for a copy and the reports held with it (R88, R89). -/
theorem cleared_free (copy : CopyFacts .offline c.cursor c.attempt c.lines.writeGate none none none false)
    (held : EventsOnly ch c.held) : ({ c.cleared now with resetHeld := false } : Channel).Free ch :=
  ⟨copy, ⟨rfl, rfl, rfl, rfl⟩, ⟨rfl, rfl⟩, rfl, held, .resetTo c.monitor c.state.motor now _⟩

/-- Without a copy nothing of one is left. -/
theorem Inner.copy_off (h : c.Inner ch) (off : c.state.isCopy = false) :
    CopyFacts .offline c.cursor c.attempt c.lines.writeGate none none none false := by
  obtain ⟨cursor, attempt, phase, position, gate, -, -, -, -⟩ := h.copy.rest off (st' := .offline) rfl
  exact ⟨cursor, attempt, phase, position, gate, nofun, rfl, nofun, nofun⟩

theorem resetAfterCopy_law (h : ChannelLaw ch c) (off : c.state.isCopy = false) :
    ChannelLaw ch (c.resetAfterCopy ch now) := by
  unfold resetAfterCopy
  split
  next told =>
    have copy : CopyFacts c.state c.cursor c.attempt c.lines.writeGate none none none false :=
      (h.inner.copy_off off).rest rfl off
    have not {st : ChState} (ne : st ≠ .reporting ∧ st ≠ .rejecting) : c.state ≠ st := by
      rintro rfl
      rcases told with e | e
      · exact ne.1 e
      · exact ne.2 e
    rw [channelLaw_iff]
    refine ⟨⟨copy, .quiet (not ⟨nofun, nofun⟩) (not ⟨nofun, nofun⟩) (not ⟨nofun, nofun⟩), ?_,
      .resetTo c.monitor c.state.motor now _, .of_ne (not ⟨nofun, nofun⟩) (not ⟨nofun, nofun⟩)⟩,
      ⟨fun st => absurd st (not ⟨nofun, nofun⟩), fun st => ?_⟩, fun st => ?_, fun st => absurd st (not ⟨nofun, nofun⟩),
      fun st => absurd st (not ⟨nofun, nofun⟩)⟩
    · obtain ⟨-, held, events, tail, tailLast⟩ := h.inner.held
      exact ⟨fun _ => told, held, events, tail, tailLast⟩
    · rcases st with st | st | st | st <;> exact absurd st (not ⟨nofun, nofun⟩)
    · rcases st with st | st | st | st | st | st
      · exact absurd st (not ⟨nofun, nofun⟩)
      · exact absurd st (not ⟨nofun, nofun⟩)
      · exact absurd st (not ⟨nofun, nofun⟩)
      · exact absurd st (not ⟨nofun, nofun⟩)
      · exact absurd st (not ⟨nofun, nofun⟩)
      · exact absurd (st.symm.trans off) nofun
  next other =>
    have told : c.state.placing = none := if_neg other
    exact (cleared_free (h.inner.copy_off off) (h.inner.held.events_only told)).goOn_law

theorem partReset_law (ch : ChannelNo) (c : Channel) (now : Nat) : ChannelLaw ch (c.partReset ch now) := by
  have free : ({ c.dropAttempt.cleared now with copy := none, held := [], cursor := none, resetHeld := false } :
      Channel).Free ch :=
    ⟨⟨rfl, rfl, nofun, nofun, ⟨nofun, fun ⟨_, e, _⟩ => by cases e⟩, nofun, rfl, nofun, nofun⟩, ⟨rfl, rfl, rfl, rfl⟩,
      ⟨rfl, rfl⟩, rfl, .nil, .resetTo c.monitor c.state.motor now _⟩
  exact free.goOn_law (c := { c.dropAttempt.cleared now with copy := none, held := [], cursor := none })

theorem powerOn_law (ch : ChannelNo) (c : Channel) : ChannelLaw ch c.powerOn := by
  rw [channelLaw_iff]
  refine ⟨⟨⟨rfl, rfl, nofun, nofun, ⟨nofun, fun ⟨_, e, _⟩ => by cases e⟩, nofun, rfl, nofun, nofun⟩,
    .quiet nofun nofun nofun, .of_events .nil rfl,
    ⟨rfl, ⟨Nat.zero_le _, Nat.zero_le _⟩, ⟨Nat.zero_le _, nofun⟩, nofun, rfl, fun _ => ⟨rfl, rfl, rfl, rfl⟩⟩,
    .of_ne nofun nofun⟩, ⟨fun _ => rfl, fun st => ?_⟩, fun st => ?_, nofun, nofun⟩
  · rcases st with st | st | st | st <;> cases st
  · rcases st with st | st | st | st | st | st <;> cases st

/-! ### Held reports -/

theorem Inner.holdOnce (h : c.Inner ch) (told : c.state.placing = none) {r : Report}
    (event : r = .channelEvent ch .jammed ∨ r = .channelEvent ch .spindleStopped) : (c.holdOnce r).Inner ch := by
  obtain ⟨copy, sort, held, monitor, stable⟩ := h
  unfold Channel.holdOnce
  split
  · exact ⟨copy, sort, held, monitor, stable⟩
  next new =>
    obtain ⟨nodup, events⟩ := held.events_only told
    refine ⟨copy, sort, ?_, monitor, stable⟩
    show HeldFacts ch c.state c.resetHeld (c.held ++ [r])
    rw [held.reset_eq_false told]
    refine .of_events ⟨nodup_concat nodup new, fun q mem => ?_⟩ told
    rcases List.mem_append.mp mem with mem | mem
    · exact events q mem
    · rw [List.mem_singleton.mp mem]; exact event

/-- An event handed over leaves the others, and the tail report last (R80). -/
theorem eventPlaced_law (h : ChannelLaw ch c) {r : Report} {rest : List Report} (first : c.held = r :: rest)
    (untold : r.tailState = none ∨ r.tailState ≠ some c.state) : ChannelLaw ch (c.handedOver rest) := by
  obtain ⟨⟨copy, sort, held, monitor, stable⟩, enabled, media⟩ := channelLaw_iff.mp h
  refine channelLaw_iff.mpr ⟨⟨copy, sort, ?_, monitor, stable⟩, enabled, media⟩
  show HeldFacts ch c.state c.resetHeld rest
  rw [first] at held
  cases placing : c.state.placing with
  | none =>
    obtain ⟨nodup, events⟩ := held.events_only placing
    rw [held.reset_eq_false placing]
    exact .of_events ⟨(List.nodup_cons.mp nodup).2, fun q mem => events q (List.mem_cons_of_mem _ mem)⟩ placing
  | some st =>
    have same : st = c.state := by
      unfold ChState.placing at placing
      split at placing
      · exact (Option.some.inj placing).symm
      · cases placing
    subst same
    obtain ⟨init, last, list, ⟨nodup, events⟩, tail⟩ := held.split placing
    cases init with
    | nil =>
      obtain ⟨rfl, rfl⟩ := List.cons.inj list
      rcases untold with none | other
      · rw [none] at tail; cases tail
      · exact absurd tail other
    | cons q init =>
      obtain ⟨rfl, rfl⟩ := List.cons.inj list
      exact .of_tail ⟨(List.nodup_cons.mp nodup).2, fun q mem => events q (List.mem_cons_of_mem _ mem)⟩ tail placing

/-- A tail report at the head of the held list is the only one there. -/
theorem Inner.rest_eq_nil (h : c.Inner ch) {r : Report} {rest : List Report} (first : c.held = r :: rest)
    (placing : c.state.placing = some c.state) (tail : r.tailState = some c.state) : rest = [] := by
  obtain ⟨init, last, list, events, -⟩ := h.held.split placing
  rw [first] at list
  cases init with
  | nil => exact (List.cons.inj list).2
  | cons q init =>
    obtain ⟨rfl, -⟩ := List.cons.inj list
    rw [events.tailState r (by simp)] at tail
    cases tail

/-! ### Attempts -/

theorem attempt_law (h : ChannelLaw ch c) {a b : Attempt} (held : c.attempt = some a) (advances : a.Advances b) :
    ChannelLaw ch { c with attempt := some b } := by
  obtain ⟨⟨copy, sort, events, monitor, stable⟩, enabled, media⟩ := channelLaw_iff.mp h
  obtain ⟨cursor, attempt, phase, position, gate, recovery, stepping, settling, waiting⟩ := copy
  obtain ⟨began, ended, last⟩ := position a held
  refine channelLaw_iff.mpr ⟨⟨⟨cursor, ?_, ?_, ?_, ?_, recovery, stepping, settling, waiting⟩, sort, events, monitor,
    stable⟩, enabled, media⟩
  · rw [held] at attempt; exact attempt
  · rintro _ ⟨⟩
    rw [advances.phase]; exact phase a held
  · rintro _ ⟨⟩
    rw [advances.phase, advances.writeBegan, advances.writeEnded]
    refine ⟨began, ended, fun checked => ?_⟩
    rcases advances.lastCheck checked with before | write
    · exact last before
    · rw [write]; nofun
  · rw [gate]
    constructor
    · rintro ⟨_, e, write⟩
      obtain rfl := Option.some.inj (held.symm.trans e)
      exact ⟨b, rfl, advances.phase.trans write⟩
    · rintro ⟨_, ⟨⟩, write⟩
      exact ⟨a, held, advances.phase.symm.trans write⟩

theorem still_of_working (h : c.Inner ch) (working : c.state = .writing ∨ c.state = .verifying ∨ c.state = .waitingIndex) :
    c.stepTimer = none ∧ c.settleTimer = none ∧ c.cursor.isSome = true ∧ c.state.isCopy = true := by
  have copying : c.state.isCopy = true := by rcases working with st | st | st <;> rw [st] <;> rfl
  have stands : c.state ≠ .recalibrating ∧ c.state ≠ .seeking := by
    rcases working with st | st | st <;> rw [st] <;> exact ⟨nofun, nofun⟩
  obtain ⟨step, settle⟩ := h.copy.still stands
  exact ⟨step, settle, h.copy.cursor_isSome copying, copying⟩

theorem gateOn_law (h : ChannelLaw ch c) {a : Attempt} (st : c.state = .writing) (held : c.attempt = some a)
    (delay : a.phase = .delay) (began : Nat) (symbols : List Symbol) :
    ChannelLaw ch
      { c with
        attempt := some { a with phase := .write, writeBegan := some began }
        lines := { c.lines with writeGate := true, writeData := symbols } } := by
  obtain ⟨step, settle, cursor, copying⟩ := still_of_working h.inner (.inl st)
  obtain ⟨-, ended, -⟩ := h.inner.copy.position a held
  refine copying_law h copying (by constructor <;> rfl) copying ?_
  show CopyFacts c.state c.cursor (some _) true c.recoveryTimer c.stepTimer c.settleTimer c.pendingRecord.isSome
  rw [st, step, settle]
  refine .trying (.inl rfl) cursor ⟨nofun, nofun⟩ ⟨rfl, ?_, fun _ => nofun⟩ ⟨fun _ => rfl, fun _ => rfl⟩
  rw [delay] at ended
  exact ended

theorem writing_law (h : ChannelLaw ch c) (st : c.state = .waitingIndex) {a : Attempt} (delay : a.phase = .delay)
    (began : a.writeBegan = none) (ended : a.writeEnded = none) (last : a.lastCheck = false)
    (f : CopyRecord → CopyRecord) :
    ChannelLaw ch ((({ c with attempt := some a } : Channel).modCopy f).enter .writing now) := by
  obtain ⟨step, settle, cursor, copying⟩ := still_of_working h.inner (.inr (.inr st))
  obtain ⟨-, gate⟩ := h.inner.copy.no_attempt (by rw [st]; exact ⟨nofun, nofun⟩)
  have begun : c.Alike (({ c with attempt := some a } : Channel).modCopy f) := by constructor <;> rfl
  refine copying_law h copying (begun.enter copying rfl now) rfl ?_
  show CopyFacts .writing c.cursor (some a) c.lines.writeGate c.recoveryTimer c.stepTimer c.settleTimer
    c.pendingRecord.isSome
  rw [step, settle, gate]
  refine .trying (.inl rfl) cursor ?_ ?_ ?_
  · rw [delay]; exact ⟨nofun, nofun⟩
  · rw [delay, began, ended, last]; exact ⟨rfl, rfl, nofun⟩
  · rw [delay]; exact ⟨nofun, nofun⟩

theorem verifying_law (h : ChannelLaw ch c) {a : Attempt} (st : c.state = .writing) (held : c.attempt = some a)
    (checked : a.lastCheck = true) (edge delay : Nat) :
    ChannelLaw ch
      (({ c.modLines fun l => { l with writeGate := false, writeData := [] } with
        attempt := some (a.reading edge now delay) } : Channel).enter .verifying now) := by
  obtain ⟨step, settle, cursor, copying⟩ := still_of_working h.inner (.inl st)
  obtain ⟨began, -, last⟩ := h.inner.copy.position a held
  have lowered : c.Alike { c.modLines fun l => { l with writeGate := false, writeData := [] } with
      attempt := some (a.reading edge now delay) } := by constructor <;> rfl
  refine copying_law h copying (lowered.enter copying rfl now) rfl ?_
  show CopyFacts .verifying c.cursor (some _) false c.recoveryTimer c.stepTimer c.settleTimer c.pendingRecord.isSome
  rw [step, settle]
  refine .trying (.inr rfl) cursor ⟨fun _ => rfl, fun _ => rfl⟩ ⟨?_, rfl, fun _ => nofun⟩ ⟨nofun, nofun⟩
  rw [(bne_iff_ne).mpr (last checked)] at began
  exact began

/-! ### Steps -/

theorem Inner.settleTimer_eq_none (h : c.Inner ch) (st : c.state ≠ .seeking) : c.settleTimer = none := by
  cases timer : c.settleTimer with
  | none => rfl
  | some n => exact absurd (h.copy.settling (by rw [timer]; rfl)) st

theorem recalibrates_law (h : ChannelLaw ch c) (st : c.state = .recalibrating) (steps : Nat) :
    ChannelLaw ch { c.pulse now with recalSteps := steps } := by
  obtain ⟨attempt, gate⟩ := h.inner.copy.no_attempt (by rw [st]; exact ⟨nofun, nofun⟩)
  have settle := h.inner.settleTimer_eq_none (by rw [st]; nofun)
  have copying : c.state.isCopy = true := by rw [st]; rfl
  refine copying_law h copying (by constructor <;> rfl) copying ?_
  show CopyFacts c.state c.cursor c.attempt c.lines.writeGate c.recoveryTimer (some _) c.settleTimer
    c.pendingRecord.isSome
  rw [st, attempt, gate, settle]
  exact .untried rfl ⟨nofun, nofun⟩ (h.inner.copy.cursor_isSome copying) rfl nofun

theorem recalibrated_law (h : ChannelLaw ch c) (st : c.state = .recalibrating) (target head : Nat) :
    ChannelLaw ch (({ c with cylinder := some 0 } : Channel).enterSeeking target head now) := by
  obtain ⟨attempt, gate⟩ := h.inner.copy.no_attempt (by rw [st]; exact ⟨nofun, nofun⟩)
  have settle := h.inner.settleTimer_eq_none (by rw [st]; nofun)
  have copying : c.state.isCopy = true := by rw [st]; rfl
  exact enterSeeking_law (d := { c with cylinder := some 0 }) h copying (by constructor <;> rfl) copying
    (h.inner.copy.cursor_isSome copying) attempt gate settle target head

theorem seeks_law (h : ChannelLaw ch c) (st : c.state = .seeking) (timer : c.stepTimer.isSome = true)
    (target head : Nat) : ChannelLaw ch (c.seekOn target head now) := by
  obtain ⟨attempt, gate⟩ := h.inner.copy.no_attempt (by rw [st]; exact ⟨nofun, nofun⟩)
  have copying : c.state.isCopy = true := by rw [st]; rfl
  have settle : c.settleTimer = none := by
    have steps := h.inner.copy.stepping
    rw [timer, st] at steps
    simpa using steps.symm
  refine copying_law h copying (seekOn_alike c target head now) ?_
    (seekOn_copyOk st (h.inner.copy.cursor_isSome copying) attempt gate settle target head)
  rw [seekOn_state, st]
  rfl

/-- A READY channel has entered RECALIBRATING with a copy, and its idle timer has stopped. -/
theorem recalibrating_law (h : ChannelLaw ch c) (st : c.state = .ready) {d : Channel} (state : d.state = .recalibrating)
    (alike : ({ c with idleTimer := none } : Channel).Alike d) (cursor : d.cursor.isSome = true)
    (attempt : d.attempt = none) (gate : d.lines.writeGate = false) (steps : d.stepTimer.isSome = true)
    (settle : d.settleTimer = none) : ChannelLaw ch d := by
  have free := h.inner.free_of st rfl rfl nofun nofun
  obtain ⟨⟨delay, eject, strobe, removal⟩, accept, reject⟩ := And.intro free.sort free.strobe
  have spin := h.inner.spinUpTimer_eq_none (by rw [st]; nofun)
  have media := h.mediaFacts.media (.inr (.inl st))
  rw [channelLaw_iff]
  refine ⟨⟨?_, ?_, ?_, ?_, .of_ne (by rw [state]; nofun) (by rw [state]; nofun)⟩, ⟨fun e => ?_, fun e => ?_⟩,
    fun _ => alike.media.trans media, fun e => ?_, fun e => ?_⟩
  · unfold CopyOk
    rw [state, attempt, gate, settle]
    exact .untried rfl ⟨nofun, nofun⟩ cursor steps nofun
  · unfold SortOk
    rw [state, alike.spinUp, alike.idle, alike.sort, alike.eject, alike.strobe, alike.accept, alike.reject, alike.removal]
    show SortFacts .recalibrating c.spinUpTimer none c.sortTimer c.ejectTimer c.strobeSort c.lines.accept c.lines.reject
      c.removalNoted
    rw [spin, delay, eject, strobe, removal, accept, reject]
    exact .quiet nofun nofun nofun
  · rw [state, alike.reset, alike.held]
    show HeldFacts ch .recalibrating c.resetHeld c.held
    rw [free.reset]
    exact .of_events free.held rfl
  · have runs := h.inner.monitor
    rw [st] at runs
    rw [state, alike.monitor]
    exact runs
  · rw [state] at e; cases e
  · rw [state] at e; rcases e with e | e | e | e <;> cases e
  · rw [state] at e; cases e
  · rw [state] at e; cases e

/-- An enrollment takes a READY channel into RECALIBRATING, or on to the seek of track 0 (R48, R70). -/
theorem enroll_law (h : ChannelLaw ch c) (st : c.state = .ready) (copy : CopyRecord) (density : Density) (head : Nat) :
    ChannelLaw ch (c.enroll copy density head now) := by
  have free := h.inner.free_of st rfl rfl nofun nofun
  obtain ⟨attempt, gate⟩ := free.copy.no_attempt ⟨nofun, nofun⟩
  obtain ⟨-, settle⟩ := free.copy.still ⟨nofun, nofun⟩
  have same : (({ c with copy := some copy, cursor := some 0, attempts := 0 } : Channel).enter .recalibrating now).monitor =
      c.monitor := enter_monitor (c := { c with copy := some copy, cursor := some 0, attempts := 0 })
        (by show c.state.motor = _; rw [st]; rfl) now
  have pulsed : ChannelLaw ch
      { ({ ({ c with copy := some copy, cursor := some 0, attempts := 0 } : Channel).enter .recalibrating now with
          idleTimer := none, cylinder := none, recalSteps := 0
          lines := { c.lines with density := density, direction := .outward } } : Channel).pulse now with
        recalSteps := 1 } :=
    recalibrating_law h st rfl ⟨rfl, rfl, rfl, rfl, rfl, rfl, rfl, rfl, rfl, rfl, same, rfl⟩ rfl attempt gate rfl settle
  unfold Channel.enroll enterRecalibrating
  dsimp only
  split
  · refine enterSeeking_law pulsed rfl ?_ rfl rfl ?_ ?_ ?_ 0 head
    · constructor <;> rfl
    · exact attempt
    · exact gate
    · exact settle
  · exact pulsed

/-- A settle ends with the channel waiting for its track or for the index (R71, R73). -/
theorem settled_law (h : ChannelLaw ch c) (st : c.state = .seeking) (timer : c.settleTimer.isSome = true) (value : Nat)
    (ready : Bool) :
    ChannelLaw ch (({ c with settleTimer := none, activePrecomp := value, attempts := 0 } : Channel).enter
      (if ready then .waitingIndex else .waitingTrack) now) := by
  obtain ⟨attempt, gate⟩ := h.inner.copy.no_attempt (by rw [st]; exact ⟨nofun, nofun⟩)
  have copying : c.state.isCopy = true := by rw [st]; rfl
  have step : c.stepTimer = none := by
    obtain ⟨n, e⟩ := Option.isSome_iff_exists.mp timer
    have steps : c.stepTimer.isSome = false := by
      rw [h.inner.copy.stepping, st, e]
      rfl
    simpa using steps
  have settled : c.Alike { c with settleTimer := none, activePrecomp := value, attempts := 0 } := by constructor <;> rfl
  have waits : (if ready then ChState.waitingIndex else .waitingTrack).isCopy = true ∧
      (if ready then ChState.waitingIndex else .waitingTrack) ≠ .writing ∧
      (if ready then ChState.waitingIndex else .waitingTrack) ≠ .verifying ∧
      ((if ready then ChState.waitingIndex else .waitingTrack) == .recalibrating ||
        ((if ready then ChState.waitingIndex else .waitingTrack) == .seeking && true)) = false := by
    cases ready <;> decide
  generalize (if ready then ChState.waitingIndex else .waitingTrack) = next at waits ⊢
  obtain ⟨next, idle, idle', stands⟩ := waits
  refine copying_law h copying (settled.enter copying next now) next ?_
  show CopyFacts _ c.cursor c.attempt c.lines.writeGate c.recoveryTimer c.stepTimer none c.pendingRecord.isSome
  rw [attempt, gate, step]
  exact .untried next ⟨idle, idle'⟩ (h.inner.copy.cursor_isSome copying) stands.symm nofun

/-- A finished track is discarded, and the seek of the next one begins (R74). -/
theorem nextTrack_law (h : ChannelLaw ch c) (working : c.state = .writing ∨ c.state = .verifying) {d : Channel}
    (alike : c.Alike d) (state : d.state = c.state) (cursor : d.cursor.isSome = true) (attempt : d.attempt = none)
    (gate : d.lines.writeGate = false) (settle : d.settleTimer = c.settleTimer) (target head : Nat) :
    ChannelLaw ch (d.enterSeeking target head now) := by
  obtain ⟨-, still, -, copying⟩ := still_of_working h.inner (working.imp_right .inl)
  exact enterSeeking_law h copying alike (by rw [state]; exact copying) cursor attempt gate (settle.trans still) target head

end Channel

/-- Every move keeps the law of its channel. -/
theorem ChannelMove.law {s : State} {ch : ChannelNo} {d : Channel} (h : ChannelMove s ch d)
    (law : ChannelLaw ch (s.chan ch)) : ChannelLaw ch d := by
  obtain ⟨⟨copy, sort, held, monitor, stable⟩, enabled, media⟩ := channelLaw_iff.mp law
  have inner := law.inner
  cases h with
  | lines => exact channelLaw_iff.mpr ⟨⟨copy, sort, held, monitor, stable⟩, enabled, media⟩
  | mediaSeen other =>
    exact channelLaw_iff.mpr ⟨⟨copy, sort, held, monitor, stable⟩, enabled, fun _ => rfl, fun _ _ => rfl,
      fun empty => absurd empty other⟩
  | mediaStarts empty =>
    have free := inner.free_of empty rfl rfl nofun nofun
    exact Channel.Free.enterSpinup_law ⟨free.copy, free.sort, free.strobe, free.reset, free.held, free.monitor⟩
      (enabled.2 (.inl empty)) rfl
  | mediaIgnored out =>
    refine channelLaw_iff.mpr ⟨⟨copy, sort, held, monitor, stable⟩, enabled, fun st => ?_, fun st => ?_, fun _ => rfl⟩
    · change (s.chan ch).state = _ ∨ (s.chan ch).state = _ ∨ (s.chan ch).state = _ ∨ (s.chan ch).state = _ ∨
        (s.chan ch).state = _ ∨ (s.chan ch).state.isCopy = true at st
      rcases out with e | e | e | e <;> rw [e] at st <;> rcases st with st | st | st | st | st | st <;> cases st
    · change (s.chan ch).state = _ at st
      rcases out with e | e | e | e <;> rw [e] at st <;> cases st
  | mediaEmpties out =>
    have yes := enabled.2 (by rcases out with e | e | e <;> simp [e])
    have free : (s.chan ch).Free ch := by
      rcases out with e | e | e <;> exact inner.free_of e rfl rfl nofun nofun
    exact Channel.Free.leaveForEmpty_law ⟨free.copy, free.sort, free.strobe, free.reset, free.held, free.monitor⟩ yes rfl
  | mediaNoted st strobing =>
    refine channelLaw_iff.mpr ⟨⟨copy, ?_, held, monitor, stable⟩, enabled, fun e => ?_, fun _ e => ?_, fun e => ?_⟩
    · obtain ⟨spinUp, idle, sort, eject, strobe, accept, reject, -⟩ := sort
      exact ⟨spinUp, idle, sort, eject, strobe, accept, reject, fun _ => strobing⟩
    · change (s.chan ch).state = _ ∨ (s.chan ch).state = _ ∨ (s.chan ch).state = _ ∨ (s.chan ch).state = _ ∨
        (s.chan ch).state = _ ∨ (s.chan ch).state.isCopy = true at e
      rw [st] at e
      rcases e with e | e | e | e | e | e <;> cases e
    · cases e
    · exact absurd (st.symm.trans e) nofun
  | mediaRearms out =>
    have free : Channel.Free ch { s.chan ch with
        sortTimer := none, ejectTimer := none, removalNoted := false, strobeSort := none
        lines := { (s.chan ch).lines with accept := false, reject := false } } := by
      refine inner.free_sorted ?_ ?_ <;> rcases out with ⟨e, -⟩ | e | e <;> rw [e] <;> rfl
    exact Channel.Free.rearm_law ⟨free.copy, free.sort, free.strobe, free.reset, free.held, free.monitor⟩
  | settings r => exact Channel.placeSettings_law law r
  | enable => exact Channel.actEnable_law (inner.setEnabled true) media rfl
  | disable => exact Channel.actDisable_law (inner.setEnabled false) media rfl
  | sortDropped => exact channelLaw_iff.mpr ⟨⟨copy, sort, held, monitor, stable⟩, enabled, media⟩
  | reset off => exact Channel.resetAfterCopy_law law off
  | flagsCleared => exact Channel.withMonitor_law law monitor.flagsCleared stable
  | edgeStarts t st running reached =>
    have free := (inner.free_of st rfl rfl nofun nofun).withMonitor
      (Channel.measured_runs (now := s.now) inner running t)
    have present := media.media (.inl st)
    refine Channel.Free.stableInSpinup_law (c := (s.chan ch).measured t s.now) free ?_ ?_ ?_ (enabled.2 (.inr (.inl st)))
      present
    · show (s.chan ch).state.motor = true
      rw [st]; rfl
    · rw [stableReached, stable.2 st] at reached
      simpa using reached
    · exact inner.idleTimer_eq_none (by rw [st]; nofun)
  | edgeLoses t st running lost =>
    have free := (inner.free_of st rfl rfl nofun nofun).withMonitor
      (Channel.measured_runs (now := s.now) inner running t)
    exact Channel.Free.enterSpinup_law (c := (s.chan ch).measured t s.now) free (enabled.2 (.inr (.inr (.inl st))))
      (media.media (.inr (.inl st)))
  | edgeMeasured t off running spinup ready => exact Channel.edgeMeasured_law law running t spinup ready
  | edgeRecovers t copying running => exact Channel.edgeRecovers_law law copying running t _ _
  | edgeTrails t running => exact Channel.edgeTrails_law law running t
  | lapses running other => exact Channel.lapses_law law running other
  | lapseLoses running st =>
    have free := (inner.free_of st rfl rfl nofun nofun).withMonitor
      (monitor.timedOut running s.now (s.chan ch).active.periodMax)
    exact Channel.Free.enterSpinup_law (c := (s.chan ch).lapsed s.now) free (enabled.2 (.inr (.inr (.inl st))))
      (media.media (.inr (.inl st)))
  | attempt a b held advances => exact Channel.attempt_law law held advances
  | gateOn a st held delay began symbols => exact Channel.gateOn_law law st held delay began symbols
  | writing st source gap edge => exact Channel.writing_law law st rfl rfl rfl rfl _
  | verifying a st held checked edge delay => exact Channel.verifying_law law st held checked edge delay
  | attemptLost detail st => exact Channel.attemptLost_law law st detail
  | recalibrates st steps => exact Channel.recalibrates_law law st steps
  | recalibrated st target head => exact Channel.recalibrated_law law st target head
  | seeks st timer target head => exact Channel.seeks_law law st timer target head
  | spinFault st =>
    have free := inner.free_of st rfl rfl nofun nofun
    have present := media.media (.inl st)
    exact channelLaw_iff.mpr ⟨free.enterRejecting (inner.idleTimer_eq_none (by rw [st]; nofun)) rfl,
      ⟨nofun, fun e => by rcases e with e | e | e | e <;> cases e⟩, fun _ => present, nofun, nofun⟩
  | idles st =>
    have free := inner.free_of st rfl rfl nofun nofun
    have yes := enabled.2 (.inr (.inr (.inl st)))
    have present := media.media (.inr (.inl st))
    have left : ((s.chan ch).leaveFor .stopped s.now).Inner ch :=
      free.leaveFor ⟨rfl, rfl⟩ ⟨nofun, nofun, nofun⟩ nofun
    refine channelLaw_iff.mpr ⟨left.holdOnce rfl (.inr rfl), ?_, ?_⟩
    · rw [Channel.holdOnce_state, Channel.holdOnce_active]
      exact ⟨nofun, fun _ => yes⟩
    · rw [Channel.holdOnce_state, Channel.holdOnce_lines, Channel.holdOnce_removalNoted]
      exact ⟨fun _ => present, nofun, nofun⟩
  | strobes st =>
    obtain ⟨spinUp, idle, -, eject, strobe, -, -, -⟩ := sort
    obtain ⟨of, some⟩ := Option.isSome_iff_exists.mp (strobe.trans (by rw [st]; rfl))
    refine channelLaw_iff.mpr ⟨⟨copy, ⟨spinUp, idle, (congrArg (· == ChState.sorting) st).symm, eject, strobe, fun on => beq_iff_eq.mp on,
      fun on => beq_iff_eq.mp on, fun _ => ?_⟩, held, monitor, stable⟩, enabled, media⟩
    show ((s.chan ch).strobeSort == Option.some .accept || (s.chan ch).strobeSort == Option.some .reject) = true
    rw [some]
    cases of <;> rfl
  | strobeEnds st => exact Channel.endStrobe_law law st
  | jams st =>
    have free := inner.free_sorted (by rw [st]; rfl) (by rw [st]; rfl)
    have present := media.media (.inr (.inr (.inr (.inl st))))
    have out : ¬((s.chan ch).state = .sorting) := by rw [st]; nofun
    have jammed : ({ (s.chan ch).enter .jammed s.now with ejectTimer := none } : Channel).Inner ch := by
      obtain ⟨spinUp, idle, sort, -, strobe, accept, reject, removal⟩ := sort
      rw [st] at spinUp sort strobe
      refine ⟨free.copyFacts rfl, ⟨spinUp, fun on => ?_, sort, rfl, strobe, accept, reject, removal⟩, ?_,
        Channel.enter_monitorRuns monitor .jammed s.now, .of_ne nofun nofun⟩
      · exact absurd ((idle on).symm.trans st) nofun
      · show HeldFacts ch .jammed (s.chan ch).resetHeld (s.chan ch).held
        rw [held.reset_eq_false (by rw [st]; rfl)]
        exact .of_events free.held rfl
    refine channelLaw_iff.mpr ⟨jammed.holdOnce rfl (.inl rfl), ?_, ?_⟩
    · rw [Channel.holdOnce_state, Channel.holdOnce_active]
      exact ⟨nofun, fun e => by rcases e with e | e | e | e <;> cases e⟩
    · rw [Channel.holdOnce_state, Channel.holdOnce_lines, Channel.holdOnce_removalNoted]
      exact ⟨fun _ => present, nofun, nofun⟩
  | eventPlaced r rest first untold => exact Channel.eventPlaced_law law first untold
  | rejectPlaced r rest first tail st =>
    have placing : (s.chan ch).state.placing = some (s.chan ch).state := by rw [st]; rfl
    obtain rfl := inner.rest_eq_nil first placing (by rw [st]; exact tail)
    exact inner.afterEvent_law (.inr st)

end Sys2Proof.Machine
end

section
/-!
Every step keeps the law of the drive channels and their Index Monitors, with the attempt accounting of R75.
-/

namespace Sys2Proof.Machine

theorem Channel.Alike.refl (c : Channel) : c.Alike c := by constructor <;> rfl

theorem Channel.seekOn_attempts (c : Channel) (target head now : Nat) :
    (c.seekOn target head now).attempts = c.attempts := by
  unfold seekOn
  split
  · rfl
  · split
    · rfl
    · split <;> rfl

theorem Channel.recover_attempts (c : Channel) (before after : Monitor) (now : Nat) :
    (c.recover before after now).attempts = c.attempts := by
  unfold recover
  split
  · rfl
  · split <;> rfl

/-- A move of a channel with a copy keeps the track's attempt count, or raises it to the retry limit at most (R75). -/
theorem ChannelMove.attempts {s : State} {ch : ChannelNo} {d : Channel} (h : ChannelMove s ch d)
    (copying : (s.chan ch).state.isCopy = true) : d.attempts = (s.chan ch).attempts ∨ d.attempts ≤ s.job.retryLimit := by
  have not {st : ChState} (eq : (s.chan ch).state = st) (off : st.isCopy = false) {Q : Prop} : Q := by
    rw [eq, off] at copying; cases copying
  cases h with
  | lines | mediaSeen | flagsCleared | edgeTrails | lapses | attempt | gateOn | writing | verifying | recalibrates |
      eventPlaced => exact .inl rfl
  | mediaStarts st => exact not st rfl
  | mediaIgnored st => rcases st with st | st | st | st <;> exact not st rfl
  | mediaEmpties st => rcases st with st | st | st <;> exact not st rfl
  | mediaNoted st => exact not st rfl
  | mediaRearms st => rcases st with ⟨st, -⟩ | st | st <;> exact not st rfl
  | settings r =>
    unfold Channel.placeSettings
    rw [if_pos copying]
    exact .inl rfl
  | enable =>
    unfold Channel.actEnable
    split
    next off => exact not off rfl
    next => exact .inl rfl
  | disable off | reset off | edgeMeasured _ off => rw [off] at copying; cases copying
  | sortDropped st | edgeStarts _ st | edgeLoses _ st | lapseLoses _ st => exact not st rfl
  | edgeRecovers t => exact .inl (Channel.recover_attempts _ _ _ _)
  | attemptLost detail st retry => exact .inr retry
  | recalibrated => exact .inl (Channel.seekOn_attempts _ _ _ _)
  | seeks => exact .inl (Channel.seekOn_attempts _ _ _ _)
  | spinFault st | idles st | strobes st | strobeEnds st | jams st => exact not st rfl
  | rejectPlaced _ _ _ _ st => exact not st rfl

namespace ChannelsLaw

variable {s t : State}

theorem congr (h : ChannelsLaw s) (channels : t.channels = s.channels) (job : t.control.job = s.control.job) :
    ChannelsLaw t := by
  refine ⟨fun ch => ?_, fun ch => ?_⟩
  · rw [State.chan, channels]; exact h.each ch
  · rw [State.chan, channels, State.job_congr job]; exact h.attempts ch

/-- One channel has been replaced. -/
theorem set (h : ChannelsLaw s) {ch : ChannelNo} {c : Channel} (channels : t.channels = s.channels.set ch c)
    (job : t.control.job = s.control.job) (law : ChannelLaw ch c)
    (attempts : c.state.isCopy = true → c.attempts ≤ s.job.retryLimit) : ChannelsLaw t := by
  have chan (d : ChannelNo) : t.chan d = (s.setChan ch c).chan d := by rw [State.chan, channels]; rfl
  refine ⟨fun d => ?_, fun d => ?_⟩
  · rw [chan]
    by_cases same : d = ch
    · subst same; rw [State.chan_setChan_self]; exact law
    · rw [State.chan_setChan_ne _ _ same]; exact h.each d
  · rw [chan, State.job_congr job]
    by_cases same : d = ch
    · subst same; rw [State.chan_setChan_self]; exact attempts
    · rw [State.chan_setChan_ne _ _ same]; exact h.attempts d

theorem setChan (h : ChannelsLaw s) (ch : ChannelNo) {c : Channel} (law : ChannelLaw ch c)
    (attempts : c.state.isCopy = true → c.attempts ≤ s.job.retryLimit) : ChannelsLaw (s.setChan ch c) :=
  h.set rfl rfl law attempts

/-- A copy ends on a channel that but for the copy's own fields is as it was. -/
theorem endCopy (h : ChannelsLaw s) {ch : ChannelNo} {d : Channel} (inner : d.Inner ch)
    (copying : d.state.isCopy = true) (alike : d.Alike (t.chan ch)) (state : (t.chan ch).state = d.state)
    (others : ∀ x, x ≠ ch → t.chan x = s.chan x) (job : t.control.job = s.control.job) (e : CopyEnd) :
    ChannelsLaw (t.endCopy ch e) := by
  have law := inner.ended_law (now := t.now) copying alike state e t.job.serialPolicy
  have jobs : (t.endCopy ch e).job = s.job := State.job_congr ((t.endCopy_ended ch e).job.1.trans job)
  refine ⟨fun x => ?_, fun x => ?_⟩
  · by_cases same : x = ch
    · subst same; rw [State.endCopy_chan_self]; exact law
    · rw [State.endCopy_chan_ne _ _ same, others x same]; exact h.each x
  · by_cases same : x = ch
    · subst same; rw [State.endCopy_chan_self]; nofun
    · rw [State.endCopy_chan_ne _ _ same, others x same, jobs]; exact h.attempts x

/-- Where no channel has a copy, the count says nothing. -/
theorem of_no_copies (each : ∀ ch, ChannelLaw ch (t.chan ch)) (out : ∀ ch, (t.chan ch).state.isCopy = false) :
    ChannelsLaw t :=
  ⟨each, fun ch copying => by rw [out] at copying; cases copying⟩

/-- A completed slot sends the channels that wait for it on to WAITING-INDEX (R29). -/
theorem acceptSegment (h : ChannelsLaw s) (i : Fin 8) (body : List Byte) : ChannelsLaw (s.acceptSegment i body) := by
  obtain ⟨-, -, -, -, -, -, timer, control⟩ := s.acceptSegment_fields i body
  have jobs : (s.acceptSegment i body).job = s.job := State.job_congr (by rw [control])
  refine ⟨fun ch => ?_, fun ch => ?_⟩
  · rw [State.acceptSegment_chan]
    split
    next told =>
      have st := told.2.2.1
      have law := h.each ch
      obtain ⟨attempt, gate⟩ := law.inner.copy.no_attempt (by rw [st]; exact ⟨nofun, nofun⟩)
      obtain ⟨step, settle⟩ := law.inner.copy.still (by rw [st]; exact ⟨nofun, nofun⟩)
      refine Channel.copying_law law (by rw [st]; rfl) (by constructor <;> rfl) rfl ?_
      show CopyFacts .waitingIndex (s.chan ch).cursor (s.chan ch).attempt (s.chan ch).lines.writeGate
        (s.chan ch).recoveryTimer (s.chan ch).stepTimer (s.chan ch).settleTimer (s.chan ch).pendingRecord.isSome
      rw [attempt, gate, step, settle]
      exact .untried rfl ⟨nofun, nofun⟩ (law.inner.copy.cursor_isSome (by rw [st]; rfl)) rfl nofun
    next => exact h.each ch
  · rw [State.acceptSegment_chan, jobs]
    split
    next told => exact fun _ => h.attempts ch (by rw [told.2.2.1]; rfl)
    next => exact h.attempts ch

end ChannelsLaw

/-- Every operation keeps the law of the channels, beside the Pass Controller's. -/
theorem keptChannelsLaw : Kept fun s => PassLaw s ∧ ChannelsLaw s where
  clock n h later := ⟨keptPassLaw.clock n h.1 later, h.2.congr rfl rfl⟩
  link h turn := ⟨keptPassLaw.link h.1 turn, h.2.congr turn.onlyLink.channels (by rw [turn.onlyLink.control])⟩
  tables h turn := ⟨keptPassLaw.tables h.1 turn, h.2.congr rfl rfl⟩
  append v h len room := ⟨keptPassLaw.append v h.1 len room, h.2.congr rfl rfl⟩
  clear h := ⟨keptPassLaw.clear h.1, h.2.congr rfl rfl⟩
  move {s ch d} h moved := by
    refine ⟨keptPassLaw.move h.1 moved, h.2.setChan ch (moved.law (h.2.each ch)) fun copying => ?_⟩
    rw [moved.sameCopy.isCopy] at copying
    rcases moved.attempts copying with same | few
    · rw [same]; exact h.2.attempts ch copying
    · exact few
  fails {s ch c} reason sort h copying failing := by
    refine ⟨keptPassLaw.fails reason sort h.1 copying failing, ?_⟩
    have chan : (s.setChan ch c).chan ch = c := State.chan_setChan_self _ _ _
    refine h.2.endCopy (t := s.setChan ch c) (d := c) (failing.inner (h.2.each ch)) (failing.stays.isCopy.trans copying) ?_ ?_ ?_ rfl _
    · rw [chan]; exact .refl c
    · rw [chan]
    · exact fun x apart => State.chan_setChan_ne _ _ apart
  finishes {s ch a} h working held := by
    refine ⟨keptPassLaw.finishes h.1 working held, ?_⟩
    have law := h.2.each ch
    have copying : (s.chan ch).state.isCopy = true := by rcases working with st | st <;> rw [st] <;> rfl
    have chan : (s.trackDone ch a).chan ch = { s.chan ch with
        attempt := none
        copy := (s.chan ch).copy.map fun r => { r with verifyDetail := none }
        lines := { (s.chan ch).lines with writeGate := false, writeData := [] } } := State.chan_setChan_self _ _ _
    have others : ∀ x, x ≠ ch → (s.trackDone ch a).chan x = s.chan x := fun x apart =>
      State.chan_setChan_ne _ _ apart
    rw [State.finishTrack_eq]
    split
    · refine h.2.endCopy law.inner copying ?_ ?_ others rfl .passed
      · rw [chan]; constructor <;> rfl
      · rw [chan]
    · rw [State.nextTrack_eq, chan]
      have next := Channel.nextTrack_law (now := (s.trackDone ch a).now) law working
        (d := { s.chan ch with
          attempt := none
          copy := (s.chan ch).copy.map fun r => { r with verifyDetail := none }
          lines := { (s.chan ch).lines with writeGate := false, writeData := [] }
          cursor := some (a.track + 1), attempts := 0 }) (by constructor <;> rfl) rfl rfl rfl rfl rfl
        ((s.trackDone ch a).physicalCylinder (a.track + 1)) ((s.trackDone ch a).layout.headOf (a.track + 1))
      refine h.2.set ?_ rfl next fun _ => ?_
      · show ((s.channels.set ch _).set ch _) = _
        rw [Vector.set_set]
      · show (Channel.seekOn _ _ _ _).attempts ≤ _
        rw [Channel.seekOn_attempts]
        exact Nat.zero_le _
  settles {s ch} h st timer := by
    refine ⟨keptPassLaw.settles h.1 st timer, ?_⟩
    exact h.2.set rfl rfl (Channel.settled_law (h.2.each ch) st timer _ _) fun _ => Nat.zero_le _
  placed {s ch r rest} h st first := by
    refine ⟨keptPassLaw.placed h.1 st first, ?_⟩
    have placing : (s.chan ch).state.placing = some (s.chan ch).state := by rw [st]; rfl
    obtain rfl := (h.2.each ch).inner.rest_eq_nil first placing (by rw [st]; rfl)
    refine h.2.set rfl rfl ((h.2.each ch).inner.afterResult_law (.inl st) _) fun copying => ?_
    rw [(Channel.afterResult_onward _ ch s.now _).off.1] at copying
    cases copying
  job h idle read :=
    ⟨keptPassLaw.job h.1 idle read, .of_no_copies h.2.each
      (h.1.isCopy_eq_false (State.passBusy_eq_false_iff.mp idle).1)⟩
  begins {s tag} zero h mayBegin := by
    refine ⟨keptPassLaw.begins zero h.1 mayBegin, ?_⟩
    obtain ⟨u, only, e⟩ := s.beginPass_onlyLink tag zero
    have dealt : ChannelsLaw (s.dealt tag zero).state := by
      refine State.dealt_induct ?opens (fun u ch law st => ?spins) fun u ch law st _ => ?enrolls
      case opens =>
        have chan (ch : ChannelNo) : (s.openPass tag zero).chan ch =
            ((s.chan ch).modLines fun l => { l with trackZero := setHas zero ch }) := by
          simp [State.openPass, State.chan, State.mapChans]
        refine ⟨fun ch => ?_, fun ch => ?_⟩
        · obtain ⟨⟨copy, sort, held, monitor, stable⟩, enabled, media⟩ := channelLaw_iff.mp (h.2.each ch)
          rw [chan]
          exact channelLaw_iff.mpr ⟨⟨copy, sort, held, monitor, stable⟩, enabled, media⟩
        · rw [chan]; exact h.2.attempts ch
      case spins =>
        have law' := law.each ch
        have free := law'.inner.free_of st rfl rfl nofun nofun
        refine law.setChan ch (free.enterSpinup_law (law'.enabledFacts.2 (by simp [st]))
          (law'.mediaFacts.media (by simp [st]))) fun copying => ?_
        rw [(Channel.enterSpinup_onward _ ch u.now).off.1] at copying
        cases copying
      case enrolls =>
        refine law.set rfl rfl (Channel.enroll_law (law.each ch) st _ _ _) fun _ => ?_
        unfold Channel.enroll Channel.enterRecalibrating
        dsimp only
        split
        · exact Nat.le_trans (Nat.le_of_eq (Channel.seekOn_attempts _ _ _ _)) (Nat.zero_le _)
        · exact Nat.zero_le _
    rw [e]
    have law := dealt.congr only.channels (by rw [only.control])
    unfold State.closeIfEmpty
    split
    · exact law.congr rfl rfl
    · exact law
  aborts {s} reason close h running := by
    refine ⟨keptPassLaw.aborts reason close h.1 running, ?_⟩
    obtain ⟨live, others, -, -, ⟨job, -⟩, -⟩ := s.abortPass_ended reason close
    have ends (ch : ChannelNo) (has : setHas s.control.pass.live ch = true) : (s.abortPass reason close).chan ch =
        (s.chan ch).ended ch (.failed reason (some .reject)) s.job.serialPolicy s.now := by
      obtain ⟨r, held⟩ := h.1.copy_of_isCopy ((h.1.live ch).symm.trans has)
      rw [live ch r has held, Channel.ended_reported _ _ _ _ _ held]
      simp
    refine ⟨fun ch => ?_, fun ch => ?_⟩
    · cases has : setHas s.control.pass.live ch with
      | true => rw [ends ch has]; exact (h.2.each ch).inner.ended_law ((h.1.live ch).symm.trans has) (.refl _) rfl _ _
      | false => rw [others ch has]; exact h.2.each ch
    · cases has : setHas s.control.pass.live ch with
      | true => rw [ends ch has]; nofun
      | false => rw [others ch has, State.job_congr job]; exact h.2.attempts ch
  closes h nobody := ⟨keptPassLaw.closes h.1 nobody, h.2.congr rfl rfl⟩
  written {s body i} h fate := ⟨keptPassLaw.written h.1 fate, h.2.acceptSegment i body⟩
  allotted {s body i} h fate := by
    refine ⟨keptPassLaw.allotted h.1 fate, ?_⟩
    have allotted : ChannelsLaw (s.allocate i (num1 body 1)) := h.2.congr rfl rfl
    exact allotted.acceptSegment i body
  partReset {s} h := by
    refine ⟨keptPassLaw.partReset h.1, ?_⟩
    have chan (ch : ChannelNo) : s.blocksReset.chan ch = (s.chan ch).partReset ch s.now := by
      rw [State.blocksReset, State.chan_mapChans]; rfl
    have blocks : ChannelsLaw s.blocksReset := by
      refine .of_no_copies (fun ch => ?_) fun ch => ?_
      · rw [chan]; exact Channel.partReset_law ch _ _
      · rw [chan]; exact (Channel.goOn_onward _ ch s.now).off.1
    have only := s.blocksReset.place_onlyLink (.resetDone (setCard s.control.pass.enrolled) s.boundSerials.length)
    rw [State.partReset_eq]
    exact blocks.congr only.channels (by rw [only.control])
  powerOn {s t} a b h e := by
    refine ⟨keptPassLaw.powerOn a b h.1 e, ?_⟩
    cases e
    refine .of_no_copies (fun ch => ?_) fun ch => ?_
    · simp only [State.chan, Fin.getElem_fin, Vector.getElem_ofFn]
      exact Channel.powerOn_law ch _
    · simp [State.chan, Channel.powerOn, Channel.initial, ChState.isCopy]

/-- Settles O9: each operation that the commands are made of keeps the law of the channels beside the Pass Controller's. -/
theorem stepKeepsChannelsLaw : Obligations.StepKeepsChannelsLaw := fun _ _ h e =>
  (keptChannelsLaw.step (fun _ h => ⟨h.1.congr rfl fun _ => .of_same rfl rfl, h.2.congr rfl rfl⟩) ⟨h.pass, h.channels⟩ e).2

end Sys2Proof.Machine
end

section
/-!
The law of the Track Store's window (R18, R20, R28, R32 to R37): the slots by themselves, a channel that works on a track, and
every step keeps it.
-/

namespace Sys2Proof.Machine

/-! ### The slots -/

/-- A channel has left a slot, or the slot has stayed (R33 to R35). -/
inductive Slot.Left (ch : ChannelNo) (sl : Slot) : Slot → Prop
  | stays : Left ch sl sl
  | leaves (some : sl.state = .complete → setDrop sl.claims ch ≠ 0) :
    Left ch sl { sl with claims := setDrop sl.claims ch }
  | frees (complete : sl.state = .complete) (last : setDrop sl.claims ch = 0) : Left ch sl sl.freed

theorem Slot.release_left (sl : Slot) (ch : ChannelNo) :
    sl.Left ch (sl.release ch) := by
  unfold Slot.release
  split
  next has =>
    split
    next last => exact .frees last.1 last.2
    next some => exact .leaves fun complete none => some ⟨complete, none⟩
  next out => exact .stays

/-- After a release the channel claims the slot no more. -/
theorem Slot.release_claims (sl : Slot) (ch : ChannelNo) (d : Nat) :
    setHas (sl.release ch).claims d = true → setHas sl.claims d = true ∧ (ch : Nat) ≠ d := by
  unfold Slot.release
  split
  next has =>
    split
    · exact fun h => absurd h (by rw [Slot.freed, setHas_empty]; nofun)
    · intro h
      rw [setHas_setDrop, Bool.and_eq_true, decide_eq_true_eq] at h
      exact h
  next out =>
    refine fun h => ⟨h, fun same => ?_⟩
    rw [same] at out
    exact out h

theorem Slot.release_of_free {sl : Slot} (h : sl.claims = 0) (ch : ChannelNo) : sl.release ch = sl := by
  rw [Slot.release, h, if_neg (by rw [setHas_empty]; nofun)]

theorem Slot.release_release (sl : Slot) (ch : ChannelNo) : (sl.release ch).release ch = sl.release ch := by
  have out : ¬setHas (sl.release ch).claims ch = true := fun h => (sl.release_claims ch ch h).2 rfl
  rw [Slot.release, if_neg out]

/-- The part of the law that speaks of the slots alone (R18, R20, R28, R29, R35). -/
structure SlotsOk (s : State) : Prop where
  free     : ∀ i : Fin 8, s.store.slots[i].state = .free →
    s.store.slots[i].track = none ∧ s.store.slots[i].present = 0 ∧ s.store.slots[i].claims = 0
  held     : ∀ i : Fin 8, s.store.slots[i].state ≠ .free →
    ∃ t, s.store.slots[i].track = some t ∧ t < s.store.fillCursor
  distinct : ∀ i j : Fin 8, s.store.slots[i].state ≠ .free →
    s.store.slots[i].track = s.store.slots[j].track → i = j
  filling  : ∀ i j : Fin 8, s.store.slots[i].state = .filling → s.store.slots[j].state = .filling → i = j
  complete : ∀ i : Fin 8, s.store.slots[i].state = .complete →
    s.store.slots[i].claims ≠ 0 ∧ s.store.slots[i].full s.layout = true

theorem WindowLaw.slotsOk {s : State} (h : WindowLaw s) : SlotsOk s :=
  ⟨h.free, h.held, h.distinct, h.filling, h.complete⟩

/-- A slot that holds a track is not FREE. -/
theorem SlotsOk.ne_free {s : State} (h : SlotsOk s) {i : Fin 8} {t : Nat} (track : s.store.slots[i].track = some t) :
    s.store.slots[i].state ≠ .free := by
  intro free
  rw [(h.free i free).1] at track
  cases track

theorem State.completeSlot_some {s : State} {t : Nat} {i : Fin 8} (h : s.completeSlot t = some i) :
    s.store.slots[i].state = .complete ∧ s.store.slots[i].track = some t := by
  have found := (State.findSlot_some h).1
  simpa using found

/-- No two slots hold the same track, so the COMPLETE one that holds it is the one the search finds. -/
theorem SlotsOk.completeSlot_eq {s : State} (h : SlotsOk s) {t : Nat} {i : Fin 8}
    (complete : s.store.slots[i].state = .complete) (track : s.store.slots[i].track = some t) :
    s.completeSlot t = some i := by
  obtain ⟨j, found⟩ := State.exists_findSlot_eq_some (s := s)
    (p := fun sl => sl.state == .complete && sl.track == some t) (j := i) (by rw [Bool.and_eq_true, beq_iff_eq, beq_iff_eq]; exact ⟨complete, track⟩)
  obtain ⟨-, other⟩ := State.completeSlot_some found
  have same := h.distinct i j (by rw [complete]; nofun) (track.trans other.symm)
  rw [same]
  exact found

/-- Channels that leave slots keep the law of the slots. -/
theorem SlotsOk.left {s t : State} (h : SlotsOk s) {ch : ChannelNo}
    (slots : ∀ i : Fin 8, s.store.slots[i].Left ch t.store.slots[i]) (cursor : t.store.fillCursor = s.store.fillCursor)
    (layout : t.layout = s.layout) : SlotsOk t := by
  have track (i : Fin 8) (some : t.store.slots[i].track ≠ none) : t.store.slots[i].track = s.store.slots[i].track := by
    have left := slots i
    generalize t.store.slots[i] = r at left some
    cases left with
    | stays | leaves => rfl
    | frees => exact absurd rfl some
  have state (i : Fin 8) (some : t.store.slots[i].state ≠ .free) :
      t.store.slots[i].state = s.store.slots[i].state ∧ t.store.slots[i].track = s.store.slots[i].track := by
    have left := slots i
    generalize t.store.slots[i] = r at left some
    cases left with
    | stays | leaves => exact ⟨rfl, rfl⟩
    | frees => exact absurd rfl some
  refine ⟨fun i free => ?_, fun i some => ?_, fun i j some same => ?_, fun i j fills fills' => ?_, fun i complete => ?_⟩
  · have left := slots i
    generalize t.store.slots[i] = r at left free
    cases left with
    | stays => exact h.free i free
    | leaves =>
      obtain ⟨track, present, claims⟩ := h.free i free
      refine ⟨track, present, ?_⟩
      show setDrop s.store.slots[i].claims ch = 0
      rw [claims]
      exact setDrop_of_not_has (setHas_empty _)
    | frees => exact ⟨rfl, rfl, rfl⟩
  · obtain ⟨same, track⟩ := state i some
    rw [cursor, track]
    exact h.held i (same ▸ some)
  · obtain ⟨before, track_i⟩ := state i some
    obtain ⟨n, held, -⟩ := h.held i (before ▸ some)
    refine h.distinct i j (before ▸ some) ?_
    rw [← track_i, same]
    exact track j (by rw [← same, track_i, held]; nofun)
  · have fills_i := (state i (by rw [fills]; nofun)).1.symm.trans fills
    have fills_j := (state j (by rw [fills']; nofun)).1.symm.trans fills'
    exact h.filling i j fills_i fills_j
  · have left := slots i
    generalize t.store.slots[i] = r at left complete
    rw [layout]
    cases left with
    | stays => exact h.complete i complete
    | leaves some => exact ⟨some complete, (h.complete i complete).2⟩
    | frees => cases complete

/-- A slot that another channel claims, or that is not COMPLETE, is not freed. -/
theorem Slot.Left.of_claim {ch : ChannelNo} {sl r : Slot} (left : sl.Left ch r) {d : ChannelNo}
    (claim : setHas sl.claims d = true) (apart : d ≠ ch) :
    r.state = sl.state ∧ r.track = sl.track ∧ setHas r.claims d = true := by
  have other : (ch : Nat) ≠ d := fun e => apart (Fin.ext e.symm)
  have stays : setHas (setDrop sl.claims ch) d = true := by
    rw [setHas_setDrop, claim, decide_eq_true other]; rfl
  cases left with
  | stays => exact ⟨rfl, rfl, claim⟩
  | leaves => exact ⟨rfl, rfl, stays⟩
  | frees _ last => rw [last, setHas_empty] at stays; cases stays

/-- Who claims a slot afterwards, claimed it before, and its track is the one it held. -/
theorem Slot.Left.track {ch : ChannelNo} {sl r : Slot} (left : sl.Left ch r) {t : Nat} (track : r.track = some t) :
    sl.track = some t ∧ (r.claims = sl.claims ∨ r.claims = setDrop sl.claims ch) := by
  cases left with
  | stays => exact ⟨track, .inl rfl⟩
  | leaves => exact ⟨track, .inr rfl⟩
  | frees => cases track

/-! ### A channel and its track -/

/-- A channel that writes or is about to has its track in the COMPLETE slot that its attempt reads (R32, R103). -/
structure Working (s : State) (c : Channel) : Prop where
  source : ∀ a, c.attempt = some a → c.cursor = some a.track ∧
    if s.formatOnly then a.source = .fill else ∃ i, a.source = .slot i ∧ s.completeSlot a.track = some i
  ready  : s.formatOnly = false → c.state = .waitingIndex ∨ c.state = .writing ∨ c.state = .verifying →
    ∃ n, c.cursor = some n ∧ (s.completeSlot n).isSome = true

theorem WindowLaw.working {s : State} (h : WindowLaw s) (ch : ChannelNo) : Working s (s.chan ch) :=
  ⟨h.source ch, h.ready ch⟩

/-- A channel without a copy works on no track. -/
theorem ChannelLaw.working {ch : ChannelNo} {c : Channel} (h : ChannelLaw ch c) (off : c.state.isCopy = false) (s : State) :
    Working s c := by
  have not {st : ChState} (hst : st.isCopy = true) : c.state ≠ st := by rintro rfl; rw [hst] at off; cases off
  obtain ⟨none, -⟩ := h.inner.copy.no_attempt ⟨not rfl, not rfl⟩
  refine ⟨fun a held => absurd (held.symm.trans none) nofun, fun _ st => ?_⟩
  rcases st with st | st | st <;> exact absurd st (not rfl)

/-- Nor does one that steps, settles or waits for its track. -/
theorem Working.of_idle {s : State} {c : Channel} (attempt : c.attempt = none)
    (st : c.state = .recalibrating ∨ c.state = .seeking ∨ c.state = .waitingTrack) : Working s c := by
  refine ⟨fun a held => absurd (held.symm.trans attempt) nofun, fun _ busy => ?_⟩
  rcases st with st | st | st <;> rw [st] at busy <;> rcases busy with e | e | e <;> cases e

theorem State.formatOnly_congr {s t : State} (job : t.control.job = s.control.job) : t.formatOnly = s.formatOnly := by
  rw [State.formatOnly, State.job_congr job, State.formatOnly]

theorem State.completeSlot_congr {s t : State} (store : t.store = s.store) (n : Nat) :
    t.completeSlot n = s.completeSlot n := by
  rw [State.completeSlot, State.findSlot, store, State.completeSlot, State.findSlot]

theorem Working.congr {s t : State} {c d : Channel} (h : Working s c) (job : t.control.job = s.control.job)
    (complete : ∀ n i, c.cursor = some n → s.completeSlot n = some i → t.completeSlot n = some i)
    (cursor : d.cursor = c.cursor) (attempt : d.attempt = c.attempt) (state : d.state = c.state) : Working t d := by
  have filled := State.formatOnly_congr job
  refine ⟨fun a held => ?_, fun stream busy => ?_⟩
  · rw [attempt] at held
    obtain ⟨at_, source⟩ := h.source a held
    rw [cursor, filled]
    refine ⟨at_, ?_⟩
    split
    next fills => rw [if_pos fills] at source; exact source
    next stream =>
      rw [if_neg stream] at source
      obtain ⟨i, slot, found⟩ := source
      exact ⟨i, slot, complete _ i at_ found⟩
  · rw [filled] at stream
    rw [state] at busy
    obtain ⟨n, at_, found⟩ := h.ready stream busy
    obtain ⟨i, found⟩ := Option.isSome_iff_exists.mp found
    exact ⟨n, cursor.trans at_, by rw [complete n i at_ found]; rfl⟩

theorem Channel.seekOn_attempt (c : Channel) (target head now : Nat) : (c.seekOn target head now).attempt = c.attempt := by
  unfold seekOn
  split
  · rfl
  · split
    · rfl
    · split <;> rfl

/-- A move of a channel keeps it on its track (R103). -/
theorem ChannelMove.working {s : State} {ch : ChannelNo} {d : Channel} (h : ChannelMove s ch d)
    (law : ChannelLaw ch (s.chan ch)) (working : Working s (s.chan ch)) : Working s d := by
  cases copying : (s.chan ch).state.isCopy with
  | false => exact (h.law law).working (h.sameCopy.isCopy.trans copying) s
  | true =>
    have not {st : ChState} (eq : (s.chan ch).state = st) (off : st.isCopy = false) {Q : Prop} : Q := by
      rw [eq, off] at copying; cases copying
    have same {e : Channel} (cursor : e.cursor = (s.chan ch).cursor) (attempt : e.attempt = (s.chan ch).attempt)
        (state : e.state = (s.chan ch).state) : Working s e :=
      working.congr rfl (fun _ _ _ found => found) cursor attempt state
    have idle {st : ChState} (eq : (s.chan ch).state = st) (st' : st ≠ .writing ∧ st ≠ .verifying) :
        (s.chan ch).attempt = none := (law.inner.copy.no_attempt (eq ▸ st')).1
    cases h with
    | lines | mediaSeen | flagsCleared | edgeTrails | lapses | recalibrates | eventPlaced => exact same rfl rfl rfl
    | mediaStarts st => exact not st rfl
    | mediaIgnored st => rcases st with st | st | st | st <;> exact not st rfl
    | mediaEmpties st => rcases st with st | st | st <;> exact not st rfl
    | mediaNoted st => exact not st rfl
    | mediaRearms st => rcases st with ⟨st, -⟩ | st | st <;> exact not st rfl
    | settings r =>
      unfold Channel.placeSettings
      rw [if_pos copying]
      exact same rfl rfl rfl
    | enable =>
      unfold Channel.actEnable
      split
      next off => exact not off rfl
      next => exact same rfl rfl rfl
    | disable off | reset off | edgeMeasured _ off => rw [off] at copying; cases copying
    | sortDropped st | edgeStarts _ st | edgeLoses _ st | lapseLoses _ st => exact not st rfl
    | edgeRecovers t =>
      unfold Channel.recover
      split
      · exact same rfl rfl rfl
      · split <;> exact same rfl rfl rfl
    | attempt a b held advances =>
      refine ⟨fun _ e => ?_, working.ready⟩
      cases e
      rw [advances.track, advances.source]
      exact working.source a held
    | gateOn a st held =>
      refine ⟨fun _ e => ?_, working.ready⟩
      cases e
      exact working.source a held
    | writing st source gap edge found =>
      have some : (s.chan ch).cursor = some ((s.chan ch).cursor.getD 0) := by
        obtain ⟨n, e⟩ := Option.isSome_iff_exists.mp (law.inner.copy.cursor_isSome copying)
        rw [e]; rfl
      refine ⟨fun _ e => ?_, fun stream _ => working.ready stream (.inl st)⟩
      cases e
      refine ⟨some, ?_⟩
      unfold State.attemptSource at found
      split
      next fills => rw [if_pos fills] at found; exact (Option.some.inj found).symm
      next stream =>
        rw [if_neg stream] at found
        obtain ⟨i, slot, rfl⟩ := Option.map_eq_some_iff.mp found
        exact ⟨i, rfl, slot⟩
    | verifying a st held =>
      refine ⟨fun _ e => ?_, fun stream _ => working.ready stream (.inr (.inl st))⟩
      cases e
      exact working.source a held
    | attemptLost detail st => exact ⟨nofun, fun stream _ => working.ready stream st⟩
    | recalibrated st =>
      refine .of_idle ?_ (.inr (.inl (Channel.seekOn_state _ _ _ _)))
      rw [Channel.enterSeeking, Channel.seekOn_attempt]
      exact idle st ⟨nofun, nofun⟩
    | seeks st =>
      refine .of_idle ?_ (.inr (.inl ((Channel.seekOn_state _ _ _ _).trans st)))
      rw [Channel.seekOn_attempt]
      exact idle st ⟨nofun, nofun⟩
    | spinFault st | idles st | strobes st | strobeEnds st | jams st => exact not st rfl
    | rejectPlaced _ _ _ _ st => exact not st rfl

end Sys2Proof.Machine
end

section
/-!
Every step keeps the law of the Track Store's window, beside the laws of the Pass Controller and of the channels.
-/

namespace Sys2Proof.Machine

/-- After a release the slot's claims are those it had without the channel. -/
theorem Slot.release_claims_eq (sl : Slot) (ch : ChannelNo) (h : (sl.release ch).state ≠ .free) :
    (sl.release ch).claims = setDrop sl.claims ch := by
  unfold Slot.release at h ⊢
  split
  next has =>
    rw [if_pos has] at h
    split
    next last => rw [if_pos last] at h; exact absurd rfl h
    next => rfl
  next out => exact (setDrop_of_not_has ((Bool.not_eq_true _).mp out)).symm

theorem Slot.Left.claims {ch : ChannelNo} {sl r : Slot} (left : sl.Left ch r) {d : Nat}
    (has : setHas r.claims d = true) : setHas sl.claims d = true := by
  cases left with
  | stays => exact has
  | leaves => rw [setHas_setDrop, Bool.and_eq_true] at has; exact has.1
  | frees => exact absurd has (by rw [Slot.freed, setHas_empty]; nofun)

theorem Channel.seekOn_cursor (c : Channel) (target head now : Nat) : (c.seekOn target head now).cursor = c.cursor := by
  unfold seekOn
  split
  · rfl
  · split
    · rfl
    · split <;> rfl

/-- A live channel is one in a copy state, and holds a cursor. -/
theorem live_iff {s : State} (pass : PassLaw s) (channels : ChannelsLaw s) (ch : ChannelNo) :
    setHas s.control.pass.live ch = (s.chan ch).cursor.isSome := by
  rw [pass.live, (channels.each ch).cursor]

namespace WindowLaw

variable {s t : State}

/-- The window, the pass and the job stay. -/
theorem next (h : WindowLaw s) (store : t.store = s.store) (state : t.control.pass.state = s.control.pass.state)
    (live : t.control.pass.live = s.control.pass.live) (job : t.control.job = s.control.job)
    (layout : s.passOpen = true → t.layout = s.layout) (cursor : ∀ ch, (t.chan ch).cursor = (s.chan ch).cursor)
    (working : ∀ ch, Working t (t.chan ch)) : WindowLaw t := by
  have opened : t.passOpen = s.passOpen := by rw [State.passOpen, state, State.passOpen]
  have filled := State.formatOnly_congr job
  refine ⟨by rw [store]; exact h.free, by rw [store]; exact h.held, by rw [store]; exact h.distinct,
    by rw [store]; exact h.filling, by rw [store, live]; exact h.whole, ?_, by rw [store, live]; exact h.claims,
    by rw [store, opened, filled]; exact h.closed, ?_, ?_, ?_, ?_, fun ch => (working ch).source, fun ch => (working ch).ready⟩
  · rw [store]
    intro i complete
    cases closed : s.passOpen with
    | true => rw [layout closed]; exact h.complete i complete
    | false => rw [(h.closed (.inl closed)).2 i] at complete; cases complete
  · rw [store, opened]
    intro on
    rw [layout on]
    exact h.cursor on
  · intro i ch c n
    rw [store, live, cursor]
    exact h.claimed i ch c n
  · intro ch c n
    rw [store, live, cursor]
    exact h.ahead ch c n
  · intro ch c
    rw [store, filled, cursor]
    exact h.behind ch c

/-- Nothing that the law speaks of has changed. -/
theorem congr (h : WindowLaw s) (store : t.store = s.store) (state : t.control.pass.state = s.control.pass.state)
    (live : t.control.pass.live = s.control.pass.live) (job : t.control.job = s.control.job)
    (tables : t.tables = s.tables) (channels : t.channels = s.channels) : WindowLaw t := by
  refine h.next store state live job (fun _ => State.layout_congr job tables) (fun ch => ?_) fun ch => ?_
  · rw [State.chan, channels]; rfl
  · refine (h.working ch).congr job (fun n i _ found => ?_) ?_ ?_ ?_
    · rw [State.completeSlot_congr store]; exact found
    all_goals rw [State.chan, channels]; rfl

/-- Every slot is FREE, and no channel is beyond track 0 or works on one. -/
theorem of_fresh (cursor : t.store.fillCursor = 0)
    (slots : ∀ i : Fin 8, t.store.slots[i].state = .free ∧ t.store.slots[i].track = none ∧
      t.store.slots[i].present = 0 ∧ t.store.slots[i].claims = 0)
    (first : ∀ (ch : ChannelNo) (c : Nat), (t.chan ch).cursor = some c → c = 0)
    (working : ∀ ch, Working t (t.chan ch)) : WindowLaw t := by
  refine ⟨fun i _ => (slots i).2, fun i some => absurd (slots i).1 some, fun i j some => absurd (slots i).1 some,
    fun i j fills => ?_, fun i fills => ?_, fun i complete => ?_, fun i ch has => ?_,
    fun _ => ⟨cursor, fun i => (slots i).1⟩, fun _ => by rw [cursor]; exact Nat.zero_le _, fun i ch c n _ _ track => ?_,
    fun ch c n _ _ _ below => ?_, fun ch c _ at_ => ?_, fun ch => (working ch).source, fun ch => (working ch).ready⟩
  · rw [(slots i).1] at fills; cases fills
  · rw [(slots i).1] at fills; cases fills
  · rw [(slots i).1] at complete; cases complete
  · rw [(slots i).2.2.2, setHas_empty] at has; cases has
  · rw [(slots i).2.1] at track; cases track
  · rw [cursor] at below; exact absurd below (Nat.not_lt_zero _)
  · rw [first ch c at_]; exact Nat.zero_le _

/-- With no pass open every slot is FREE and no channel has a copy. -/
theorem of_closed (pass : PassLaw t) (channels : ChannelsLaw t) (closed : t.passOpen = false)
    (cursor : t.store.fillCursor = 0)
    (slots : ∀ i : Fin 8, t.store.slots[i].state = .free ∧ t.store.slots[i].track = none ∧
      t.store.slots[i].present = 0 ∧ t.store.slots[i].claims = 0) : WindowLaw t := by
  have off := pass.isCopy_eq_false closed
  refine .of_fresh cursor slots (fun ch c at_ => ?_) fun ch => (channels.each ch).working (off ch) t
  have none := (channels.each ch).cursor
  rw [at_, off ch] at none
  cases none

theorem slots_of_closed (h : WindowLaw s) (closed : s.passOpen = false) : s.store.fillCursor = 0 ∧
    ∀ i : Fin 8, s.store.slots[i].state = .free ∧ s.store.slots[i].track = none ∧ s.store.slots[i].present = 0 ∧
      s.store.slots[i].claims = 0 := by
  obtain ⟨cursor, free⟩ := h.closed (.inl closed)
  exact ⟨cursor, fun i => ⟨free i, h.free i (free i)⟩⟩

/-! ### A channel leaves slots -/

/-- Another live channel keeps its COMPLETE slot when a channel leaves. -/
theorem completeSlot_left (h : WindowLaw s) {ch : ChannelNo} (ok : SlotsOk t)
    (slots : ∀ i : Fin 8, s.store.slots[i].Left ch t.store.slots[i]) {d : ChannelNo} (apart : d ≠ ch)
    (live : setHas s.control.pass.live d = true) {n : Nat} {i : Fin 8} (at_ : (s.chan d).cursor = some n)
    (found : s.completeSlot n = some i) : t.completeSlot n = some i := by
  obtain ⟨complete, track⟩ := State.completeSlot_some found
  have claim : setHas s.store.slots[i].claims d = true := by
    rw [h.claimed i d n n live at_ track]
    exact decide_eq_true (Nat.le_refl n)
  obtain ⟨state, held, -⟩ := (slots i).of_claim claim apart
  exact ok.completeSlot_eq (state.trans complete) (held.trans track)

/-- Whether another channel claims a slot that holds a track afterwards has not changed. -/
theorem claims_left {ch d : ChannelNo} {sl r : Slot} (left : sl.Left ch r) (apart : d ≠ ch) {n : Nat}
    (track : r.track = some n) : setHas r.claims d = setHas sl.claims d := by
  have other : (ch : Nat) ≠ d := fun e => apart (Fin.ext e.symm)
  rcases (left.track track).2 with same | dropped
  · rw [same]
  · rw [dropped, setHas_setDrop, decide_eq_true other, Bool.and_true]

/-- The end of a copy frees what its channel alone claimed, and with the last copy everything (R34, R35, R37). -/
theorem endCopy {u : State} {ch : ChannelNo} {e : CopyEnd} (h : WindowLaw s) (pass : PassLaw s) (channels : ChannelsLaw s)
    (pass' : PassLaw (u.endCopy ch e)) (channels' : ChannelsLaw (u.endCopy ch e))
    (released : ∀ i : Fin 8, u.store.slots[i].release ch = s.store.slots[i].release ch)
    (cursor : u.store.fillCursor = s.store.fillCursor) (control : u.control = s.control) (tables : u.tables = s.tables)
    (others : ∀ d, d ≠ ch → u.chan d = s.chan d) : WindowLaw (u.endCopy ch e) := by
  obtain ⟨-, ⟨live, -⟩, -, ⟨job, -⟩, closes, -, -, same, -⟩ := u.endCopy_ended ch e
  have out : ((u.endCopy ch e).chan ch).state.isCopy = false := by rw [State.endCopy_chan_self]; rfl
  have gone : ((u.endCopy ch e).chan ch).cursor = none := by rw [State.endCopy_chan_self]; rfl
  have tables' := (u.endCopy_tables ch e).trans tables
  generalize u.endCopy ch e = t at *
  rw [control] at live job
  split at closes
  next last =>
    obtain ⟨closed, -, -, zero, slots, -⟩ := closes
    exact .of_closed pass' channels' closed zero slots
  next more =>
    obtain ⟨state, -, -, fill, slots, -⟩ := closes
    rw [control] at state
    have opened : t.passOpen = s.passOpen := by rw [State.passOpen, state, State.passOpen]
    have filled := State.formatOnly_congr job
    have layout : t.layout = s.layout := State.layout_congr job tables'
    have slot (i : Fin 8) : t.store.slots[i] = s.store.slots[i].release ch := (slots i).trans (released i)
    have left (i : Fin 8) : s.store.slots[i].Left ch t.store.slots[i] := by rw [slot]; exact Slot.release_left _ ch
    have ok := h.slotsOk.left left (fill.trans cursor) layout
    have chan (d : ChannelNo) (apart : d ≠ ch) : t.chan d = s.chan d := (same d apart).trans (others d apart)
    have apart (d : ChannelNo) (n : Nat) (at_ : (t.chan d).cursor = some n) : d ≠ ch := by
      rintro rfl; rw [gone] at at_; cases at_
    have has (d : ChannelNo) (n : Nat) (ne : d ≠ ch) (at_ : (s.chan d).cursor = some n) :
        setHas s.control.pass.live d = true := by rw [live_iff pass channels, at_]; rfl
    refine ⟨ok.free, ok.held, ok.distinct, ok.filling, fun i fills => ?_, ok.complete, fun i d claim => ?_, fun idle => ?_,
      fun on => ?_, fun i d c n _ at_ track => ?_, fun d c n _ at_ from_ below => ?_, fun d c stream at_ => ?_, ?_, ?_⟩
    · have some : (s.store.slots[i].release ch).state ≠ .free := by rw [← slot, fills]; nofun
      rw [slot, Slot.release_claims_eq _ ch some, live]
      have before : s.store.slots[i].state = .filling := by
        have was := left i
        generalize t.store.slots[i] = r at was fills
        cases was with
        | stays | leaves => exact fills
        | frees => cases fills
      rw [h.whole i before]
    · rw [slot] at claim
      obtain ⟨before, ne⟩ := Slot.release_claims _ ch d claim
      rw [live, setHas_setDrop, h.claims i d before, decide_eq_true ne]
      rfl
    · rw [opened, filled] at idle
      obtain ⟨zero, free⟩ := h.closed idle
      refine ⟨(fill.trans cursor).trans zero, fun i => ?_⟩
      rw [slot, Slot.release_of_free (h.free i (free i)).2.2]
      exact free i
    · rw [fill.trans cursor, layout]
      exact h.cursor (opened.symm.trans on)
    · have ne := apart d c at_
      rw [chan d ne] at at_
      rw [claims_left (left i) ne track]
      exact h.claimed i d c n (has d c ne at_) at_ ((left i).track track).1
    · have ne := apart d c at_
      rw [chan d ne] at at_
      rw [fill.trans cursor] at below
      obtain ⟨i, track⟩ := h.ahead d c n (has d c ne at_) at_ from_ below
      have claim : setHas s.store.slots[i].claims d = true := by
        rw [h.claimed i d c n (has d c ne at_) at_ track]; exact decide_eq_true from_
      exact ⟨i, ((left i).of_claim claim ne).2.1.trans track⟩
    · have ne := apart d c at_
      rw [chan d ne] at at_
      rw [fill.trans cursor]
      exact h.behind d c (filled.symm.trans stream) at_
    all_goals
      have working (d : ChannelNo) : Working t (t.chan d) := by
        by_cases ne : d = ch
        · subst ne; exact (channels'.each d).working out t
        · refine (h.working d).congr job (fun n i at_ found => ?_) ?_ ?_ ?_
          · exact h.completeSlot_left ok left ne (has d n ne at_) at_ found
          all_goals rw [chan d ne]
    · exact fun d => (working d).source
    · exact fun d => (working d).ready

/-- A finished track: its channel leaves the slot and seeks the next one (R33, R74). -/
theorem nextTrack (h : WindowLaw s) (pass : PassLaw s) (channels : ChannelsLaw s) {ch : ChannelNo} {a : Attempt}
    (held : (s.chan ch).attempt = some a) : WindowLaw ((s.trackDone ch a).nextTrack ch (a.track + 1)) := by
  obtain ⟨at_, source⟩ := h.source ch a held
  have store : ((s.trackDone ch a).nextTrack ch (a.track + 1)).store = (s.trackDone ch a).store := rfl
  have control : ((s.trackDone ch a).nextTrack ch (a.track + 1)).control = s.control := rfl
  have layout : ((s.trackDone ch a).nextTrack ch (a.track + 1)).layout = s.layout := rfl
  have fill : (s.trackDone ch a).store.fillCursor = s.store.fillCursor := rfl
  have slot := s.trackDone_slot ch a
  have chan (d : ChannelNo) (ne : d ≠ ch) : ((s.trackDone ch a).nextTrack ch (a.track + 1)).chan d = s.chan d :=
    (State.chan_setChan_ne _ _ ne).trans (State.chan_setChan_ne _ _ ne)
  have self : (((s.trackDone ch a).nextTrack ch (a.track + 1)).chan ch).cursor = some (a.track + 1) ∧
      (((s.trackDone ch a).nextTrack ch (a.track + 1)).chan ch).attempt = none ∧
      (((s.trackDone ch a).nextTrack ch (a.track + 1)).chan ch).state = .seeking := by
    rw [State.nextTrack_eq, State.chan_setChan_self, State.trackDone, State.chan_setChan_self]
    exact ⟨Channel.seekOn_cursor _ _ _ _, Channel.seekOn_attempt _ _ _ _, Channel.seekOn_state _ _ _ _⟩
  generalize (s.trackDone ch a).nextTrack ch (a.track + 1) = t at *
  have left (i : Fin 8) : s.store.slots[i].Left ch t.store.slots[i] := by
    rw [store, slot]
    split
    · exact Slot.release_left _ ch
    · exact .stays
  have filled : t.formatOnly = s.formatOnly := State.formatOnly_congr (by rw [control])
  have opened : t.passOpen = s.passOpen := by rw [State.passOpen, control, State.passOpen]
  have ok := h.slotsOk.left left (by rw [store]; rfl) layout
  have has (d : ChannelNo) (n : Nat) (at_ : (s.chan d).cursor = some n) :
      setHas s.control.pass.live d = true := by rw [live_iff pass channels, at_]; rfl
  have reads {i : Fin 8} (is : a.source = .slot i) : s.formatOnly = false ∧ s.completeSlot a.track = some i := by
    cases filling : s.formatOnly with
    | true => rw [if_pos filling, is] at source; cases source
    | false =>
      rw [if_neg (by rw [filling]; nofun)] at source
      obtain ⟨j, slot, found⟩ := source
      rw [is] at slot
      cases slot
      exact ⟨rfl, found⟩
  have holds {i : Fin 8} (track : s.store.slots[i].track = some a.track) : a.source = .slot i := by
    cases filling : s.formatOnly with
    | true =>
      have free := (h.closed (.inr filling)).2 i
      rw [(h.free i free).1] at track; cases track
    | false =>
      rw [if_neg (by rw [filling]; nofun)] at source
      obtain ⟨j, slot, found⟩ := source
      obtain ⟨complete, same⟩ := State.completeSlot_some found
      rw [slot, h.distinct j i (by rw [complete]; nofun) (same.trans track.symm)]
  have working (d : ChannelNo) : Working t (t.chan d) := by
    by_cases ne : d = ch
    · subst ne; exact .of_idle self.2.1 (.inr (.inl self.2.2))
    · refine (h.working d).congr (by rw [control]) (fun n i at_ found => ?_) ?_ ?_ ?_
      · exact h.completeSlot_left ok left ne (has d n at_) at_ found
      all_goals rw [chan d ne]
  refine ⟨ok.free, ok.held, ok.distinct, ok.filling, fun i fills => ?_, ok.complete, fun i d claim => ?_, fun idle => ?_,
    fun on => ?_, fun i d c n live at_' track => ?_, fun d c n live at_' from_ below => ?_, fun d c stream at_' => ?_,
    fun d => (working d).source, fun d => (working d).ready⟩
  · rw [store, slot] at fills ⊢
    rw [control]
    split
    next is =>
      rw [if_pos is] at fills
      have complete := (State.completeSlot_some (reads is).2).1
      unfold Slot.release at fills
      split at fills
      · split at fills
        · cases fills
        · rw [complete] at fills; cases fills
      · rw [complete] at fills; cases fills
    next other => rw [if_neg other] at fills; exact h.whole i fills
  · rw [control]; exact h.claims i d ((left i).claims claim)
  · rw [opened, filled] at idle
    obtain ⟨zero, free⟩ := h.closed idle
    refine ⟨by rw [store, fill]; exact zero, fun i => ?_⟩
    rw [store, slot]
    split
    · rw [Slot.release_of_free (h.free i (free i)).2.2]; exact free i
    · exact free i
  · rw [store, fill, layout]
    exact h.cursor (opened.symm.trans on)
  · rw [control] at live
    by_cases ne : d = ch
    · subst ne
      obtain rfl := Option.some.inj (self.1.symm.trans at_')
      have before := ((left i).track track).1
      rw [store, slot] at track ⊢
      split
      next is =>
        have same := (State.completeSlot_some (reads is).2).2
        obtain rfl := Option.some.inj (same.symm.trans before)
        rw [decide_eq_false (by omega)]
        exact Bool.eq_false_iff.mpr fun claim => (Slot.release_claims _ d d claim).2 rfl
      next other =>
        have apart : n ≠ a.track := by rintro rfl; exact other (holds before)
        rw [h.claimed i d a.track n live at_ before]
        exact decide_eq_decide.mpr (by omega)
    · rw [chan d ne] at at_'
      rw [claims_left (left i) ne track]
      exact h.claimed i d c n live at_' ((left i).track track).1
  · rw [control] at live
    rw [store, fill] at below
    by_cases ne : d = ch
    · subst ne
      obtain rfl := Option.some.inj (self.1.symm.trans at_')
      obtain ⟨i, track⟩ := h.ahead d a.track n live at_ (by omega) below
      refine ⟨i, ?_⟩
      rw [store, slot, if_neg fun is => ?_]
      · exact track
      · have same := (State.completeSlot_some (reads is).2).2
        have : n = a.track := Option.some.inj (track.symm.trans same)
        omega
    · rw [chan d ne] at at_'
      obtain ⟨i, track⟩ := h.ahead d c n live at_' from_ below
      have claim : setHas s.store.slots[i].claims d = true := by
        rw [h.claimed i d c n live at_' track]; exact decide_eq_true from_
      exact ⟨i, ((left i).of_claim claim ne).2.1.trans track⟩
  · rw [store, fill]
    by_cases ne : d = ch
    · subst ne
      obtain rfl := Option.some.inj (self.1.symm.trans at_')
      rw [if_neg (by rw [← filled, stream]; nofun)] at source
      obtain ⟨i, -, found⟩ := source
      obtain ⟨complete, track⟩ := State.completeSlot_some found
      obtain ⟨n, same, below⟩ := h.held i (by rw [complete]; nofun)
      obtain rfl := Option.some.inj (track.symm.trans same)
      exact below
    · rw [chan d ne] at at_'
      exact h.behind d c (filled.symm.trans stream) at_'

end WindowLaw

end Sys2Proof.Machine
end

section
/-!
Every step keeps the law of the window: the segments, the opening of a pass, and the rest of the operations.
-/

namespace Sys2Proof.Machine

namespace WindowLaw

variable {s : State}

/-! ### Segments (R24, R28, R29) -/

/-- A segment goes into the FILLING slot, which may complete, and tells the channels that wait for its track. -/
theorem acceptSegment (h : WindowLaw s) (pass : PassLaw s) (channels : ChannelsLaw s) {i : Fin 8} {n : Nat}
    (opened : s.passOpen = true) (fills : s.store.slots[i].state = .filling)
    (holds : s.store.slots[i].track = some n) (body : List Byte) : WindowLaw (s.acceptSegment i body) := by
  obtain ⟨⟨-, track, claims, state, -, -, others, told, -, -⟩, fill⟩ := s.acceptSegment_taken i body n fills holds
  obtain ⟨-, -, -, tables, -, -, timer, control⟩ := s.acceptSegment_fields i body
  generalize hu : (s.acceptSegment i body).dropHead = u at *
  have store : (s.acceptSegment i body).store = u.store := by subst hu; rfl
  have chan (ch : ChannelNo) : (s.acceptSegment i body).chan ch = u.chan ch := by subst hu; rfl
  generalize s.acceptSegment i body = t at *
  have filled : t.formatOnly = s.formatOnly := State.formatOnly_congr (by rw [control])
  have layout : t.layout = s.layout := State.layout_congr (by rw [control]) tables
  have kept : t.passOpen = s.passOpen := by rw [State.passOpen, control, State.passOpen]
  have live : t.control.pass.live = s.control.pass.live := by rw [control]
  rw [← store] at track claims state others fill told
  have cursor (ch : ChannelNo) : (t.chan ch).cursor = (s.chan ch).cursor := by
    rw [chan, told]; split <;> rfl
  have slot (j : Fin 8) : (j = i ∧ (t.store.slots[j].state = .filling ∨ t.store.slots[j].state = .complete)) ∨
      (j ≠ i ∧ t.store.slots[j] = s.store.slots[j]) := by
    by_cases same : j = i
    · subst same
      refine .inl ⟨rfl, ?_⟩
      rw [state]
      split
      · exact .inr rfl
      · exact .inl rfl
    · exact .inr ⟨same, others j same⟩
  have some : ∃ ch : ChannelNo, setHas s.control.pass.live ch = true := by
    have nonempty := pass.opened
    rw [opened] at nonempty
    refine Classical.byContradiction fun none => ?_
    refine of_decide_eq_true nonempty.symm ((set_eq_zero_iff _).mpr fun k hk => ?_)
    exact (Bool.not_eq_true _).mp fun has => none ⟨⟨k, hk⟩, has⟩
  have held (j : Fin 8) : t.store.slots[j].track = s.store.slots[j].track ∧
      t.store.slots[j].claims = s.store.slots[j].claims ∧
      (t.store.slots[j].state = .free ↔ s.store.slots[j].state = .free) := by
    rcases slot j with ⟨rfl, busy⟩ | ⟨-, same⟩
    · refine ⟨track.trans holds.symm, claims, ?_⟩
      exact iff_of_false (fun free => by rcases busy with st | st <;> cases st.symm.trans free)
        (fun free => by cases fills.symm.trans free)
    · rw [same]; exact ⟨rfl, rfl, Iff.rfl⟩
  have ok : SlotsOk t := by
    refine ⟨fun j free => ?_, fun j busy => ?_, fun j k busy same => ?_, fun j k fj fk => ?_, fun j complete => ?_⟩
    · rcases slot j with ⟨-, busy⟩ | ⟨-, same⟩
      · rcases busy with st | st <;> rw [st] at free <;> cases free
      · rw [same] at free ⊢; exact h.free j free
    · rw [(held j).1, fill]
      exact h.held j fun free => busy ((held j).2.2.mpr free)
    · rw [(held j).1, (held k).1] at same
      exact h.distinct j k (fun free => busy ((held j).2.2.mpr free)) same
    · have before (x : Fin 8) (fx : t.store.slots[x].state = .filling) : s.store.slots[x].state = .filling := by
        rcases slot x with ⟨rfl, -⟩ | ⟨-, same⟩
        · exact fills
        · rw [same] at fx; exact fx
      exact h.filling j k (before j fj) (before k fk)
    · rcases slot j with ⟨rfl, -⟩ | ⟨-, same⟩
      · refine ⟨?_, ?_⟩
        · rw [claims, h.whole j fills]
          obtain ⟨ch, has⟩ := some
          intro none
          rw [none, setHas_empty] at has
          cases has
        · rw [Slot.full_iff, layout]
          rw [state] at complete
          refine Classical.byContradiction fun few => ?_
          rw [if_neg few] at complete
          cases complete
      · rw [same] at complete ⊢
        rw [layout]
        exact h.complete j complete
  have complete (m : Nat) (j : Fin 8) (found : s.completeSlot m = Option.some j) : t.completeSlot m = Option.some j := by
    obtain ⟨done, at_⟩ := State.completeSlot_some found
    rcases slot j with ⟨rfl, -⟩ | ⟨-, same⟩
    · rw [fills] at done; cases done
    · refine ok.completeSlot_eq ?_ ?_
      · rw [same]; exact done
      · rw [same]; exact at_
  have working (ch : ChannelNo) : Working t (t.chan ch) := by
    rw [chan, told]
    split
    next ready =>
      obtain ⟨done, -, waits, at_⟩ := ready
      obtain ⟨none, -⟩ := (channels.each ch).inner.copy.no_attempt (by rw [waits]; exact ⟨nofun, nofun⟩)
      refine ⟨fun a tried => absurd (tried.symm.trans none) nofun, fun _ _ => ⟨n, at_, ?_⟩⟩
      rw [ok.completeSlot_eq done track]
      rfl
    next => exact (h.working ch).congr (by rw [control]) (fun m j _ => complete m j) rfl rfl rfl
  refine ⟨ok.free, ok.held, ok.distinct, ok.filling, fun j fj => ?_, ok.complete, fun j ch => ?_, fun idle => ?_,
    fun _ => ?_, fun j ch c m => ?_, fun ch c m => ?_, fun ch c => ?_, fun ch => (working ch).source,
    fun ch => (working ch).ready⟩
  · rcases slot j with ⟨rfl, -⟩ | ⟨-, same⟩
    · rw [claims, live]; exact h.whole j fills
    · rw [same] at fj ⊢; rw [live]; exact h.whole j fj
  · rw [(held j).2.1, live]; exact h.claims j ch
  · rw [kept, filled] at idle
    have free := (h.closed idle).2 i
    rw [fills] at free; cases free
  · rw [fill, layout]; exact h.cursor opened
  · rw [live, cursor, (held j).1, (held j).2.1]; exact h.claimed j ch c m
  · rw [live, cursor, fill]
    intro has at_ from_ below
    obtain ⟨j, at_track⟩ := h.ahead ch c m has at_ from_ below
    exact ⟨j, (held j).1.trans at_track⟩
  · rw [filled, cursor, fill]; exact h.behind ch c

/-- The lowest FREE slot is allocated to the track at the fill cursor (R28). -/
theorem allocate (h : WindowLaw s) {i : Fin 8} (opened : s.passOpen = true) (stream : s.formatOnly = false) (free : s.store.slots[i].state = .free)
    (none : ∀ j : Fin 8, s.store.slots[j].state ≠ .filling) (below : s.store.fillCursor < s.layout.tracks) :
    WindowLaw (s.allocate i s.store.fillCursor) := by
  have slot (j : Fin 8) : (s.allocate i s.store.fillCursor).store.slots[j] =
      if j = i then s.store.slots[i].allocated s.store.fillCursor s.control.pass.live else s.store.slots[j] := by
    by_cases same : j = i
    · subst same; simp [State.allocate]
    · have apart : (i : Nat) ≠ j := fun e => same (Fin.ext e.symm)
      simp [State.allocate, same, apart]
  have fill : (s.allocate i s.store.fillCursor).store.fillCursor = s.store.fillCursor + 1 := rfl
  have control : (s.allocate i s.store.fillCursor).control = s.control := rfl
  have chan (ch : ChannelNo) : (s.allocate i s.store.fillCursor).chan ch = s.chan ch := rfl
  have layout : (s.allocate i s.store.fillCursor).layout = s.layout := rfl
  have kept : (s.allocate i s.store.fillCursor).passOpen = s.passOpen := rfl
  have filled : (s.allocate i s.store.fillCursor).formatOnly = s.formatOnly := rfl
  generalize s.allocate i s.store.fillCursor = t at *
  have self : t.store.slots[i] = s.store.slots[i].allocated s.store.fillCursor s.control.pass.live := by
    rw [slot, if_pos rfl]
  have other (j : Fin 8) (ne : j ≠ i) : t.store.slots[j] = s.store.slots[j] := by rw [slot, if_neg ne]
  have early (j : Fin 8) (m : Nat) (ne : j ≠ i) (track : t.store.slots[j].track = some m) : m < s.store.fillCursor := by
    rw [other j ne] at track
    obtain ⟨k, same, low⟩ := h.held j (h.slotsOk.ne_free track)
    obtain rfl := Option.some.inj (track.symm.trans same)
    exact low
  have mine : t.store.slots[i].track = some s.store.fillCursor := by rw [self]; rfl
  have ok : SlotsOk t := by
    refine ⟨fun j idle => ?_, fun j busy => ?_, fun j k busy same => ?_, fun j k fj fk => ?_, fun j done => ?_⟩
    · by_cases ne : j = i
      · subst ne; rw [self] at idle; cases idle
      · rw [other j ne] at idle ⊢; exact h.free j idle
    · rw [fill]
      by_cases ne : j = i
      · subst ne; exact ⟨_, mine, Nat.lt_succ_self _⟩
      · rw [other j ne] at busy ⊢
        obtain ⟨m, track, low⟩ := h.held j busy
        exact ⟨m, track, Nat.lt_succ_of_lt low⟩
    · by_cases nj : j = i
      · by_cases nk : k = i
        · exact nj.trans nk.symm
        · subst nj
          rw [mine] at same
          exact absurd (early k _ nk same.symm) (Nat.lt_irrefl _)
      · by_cases nk : k = i
        · subst nk
          rw [mine] at same
          exact absurd (early j _ nj same) (Nat.lt_irrefl _)
        · rw [other j nj, other k nk] at same
          rw [other j nj] at busy
          exact h.distinct j k busy same
    · have only (x : Fin 8) (fx : t.store.slots[x].state = .filling) : x = i := by
        refine Classical.byContradiction fun ne => ?_
        rw [other x ne] at fx
        exact none x fx
      exact (only j fj).trans (only k fk).symm
    · by_cases ne : j = i
      · subst ne; rw [self] at done; cases done
      · rw [layout]
        rw [other j ne] at done ⊢
        exact h.complete j done
  have complete (m : Nat) (j : Fin 8) (found : s.completeSlot m = some j) : t.completeSlot m = some j := by
    obtain ⟨done, at_⟩ := State.completeSlot_some found
    have ne : j ≠ i := by rintro rfl; rw [free] at done; cases done
    exact ok.completeSlot_eq (by rw [other j ne]; exact done) (by rw [other j ne]; exact at_)
  have working (ch : ChannelNo) : Working t (t.chan ch) := by
    rw [chan]
    exact (h.working ch).congr (by rw [control]) (fun m j _ => complete m j) rfl rfl rfl
  refine ⟨ok.free, ok.held, ok.distinct, ok.filling, fun j fj => ?_, ok.complete, fun j ch claim => ?_, fun idle => ?_,
    fun _ => ?_, fun j ch c m has at_ track => ?_, fun ch c m has at_ from_ low => ?_, fun ch c _ at_ => ?_,
    fun ch => (working ch).source, fun ch => (working ch).ready⟩
  · by_cases ne : j = i
    · subst ne; rw [self, control]; rfl
    · rw [other j ne] at fj; exact absurd fj (none j)
  · rw [control]
    by_cases ne : j = i
    · subst ne; rw [self] at claim; exact claim
    · rw [other j ne] at claim; exact h.claims j ch claim
  · rw [kept, filled, opened, stream] at idle
    rcases idle with e | e <;> cases e
  · rw [fill, layout]; exact below
  · rw [control] at has
    rw [chan] at at_
    by_cases ne : j = i
    · subst ne
      obtain rfl := Option.some.inj (mine.symm.trans track)
      rw [self, decide_eq_true (h.behind ch c stream at_)]
      exact has
    · rw [other j ne] at track ⊢
      exact h.claimed j ch c m has at_ track
  · rw [control] at has
    rw [chan] at at_
    rw [fill] at low
    rcases Nat.lt_succ_iff_lt_or_eq.mp low with before | rfl
    · obtain ⟨j, track⟩ := h.ahead ch c m has at_ from_ before
      have ne : j ≠ i := by
        rintro rfl
        rw [(h.free j free).1] at track; cases track
      exact ⟨j, by rw [other j ne]; exact track⟩
    · exact ⟨i, mine⟩
  · rw [chan] at at_
    rw [fill]
    exact Nat.le_succ_of_le (h.behind ch c stream at_)

end WindowLaw

/-- What the checks on the slots find where a segment may be written (R24, R28). -/
theorem State.slotFate_written {s : State} {n : Nat} {i : Fin 8} (fate : s.slotFate n = .written i) :
    s.store.slots[i].track = some n ∧ s.store.slots[i].state ≠ .complete := by
  unfold State.slotFate at fate
  split at fate
  next j found =>
    split at fate
    · cases fate
    next busy =>
      cases fate
      exact ⟨by simpa using (State.findSlot_some found).1, busy⟩
  next =>
    split at fate
    · cases fate
    split at fate
    · cases fate
    split at fate
    · cases fate
    split at fate <;> cases fate

theorem State.slotFate_allocated {s : State} {n : Nat} {i : Fin 8} (fate : s.slotFate n = .allocated i) :
    n = s.store.fillCursor ∧ s.store.slots[i].state = .free ∧ ∀ j : Fin 8, s.store.slots[j].state ≠ .filling := by
  unfold State.slotFate at fate
  split at fate
  · split at fate <;> cases fate
  next =>
    split at fate
    · cases fate
    next low =>
    split at fate
    · cases fate
    next high =>
    split at fate
    · cases fate
    next none =>
    split at fate
    next j found =>
      cases fate
      refine ⟨by omega, by simpa using (State.findSlot_some found).1, fun j => ?_⟩
      simpa using State.findSlot_none none j
    · cases fate

theorem State.segmentFate_ne {s : State} {body : List Byte} {fate : SegmentFate} (h : s.segmentFate body = fate)
    (stale : fate ≠ .stale) (refused : ∀ r, fate ≠ .refused r) : s.passOpen = true ∧ s.formatOnly = false ∧
      s.layout.segmentReason body = none ∧ s.slotFate (num1 body 1) = fate := by
  rcases s.segmentFate_cases body with e | ⟨r, e⟩ | ⟨opened, stream, fits, same⟩
  · exact absurd (h.symm.trans e) stale
  · exact absurd (h.symm.trans e) (refused r)
  · exact ⟨opened, stream, fits, same.symm.trans h⟩

/-- The window and the channels as a pass is being opened: every slot is FREE, and the channels enrolled so far are on their
way to track 0 (R36, R47, R48). -/
structure Fresh (s : State) : Prop where
  cursor  : s.store.fillCursor = 0
  slots   : ∀ i : Fin 8, s.store.slots[i].state = .free ∧ s.store.slots[i].track = none ∧
    s.store.slots[i].present = 0 ∧ s.store.slots[i].claims = 0
  first   : ∀ (ch : ChannelNo) (c : Nat), (s.chan ch).cursor = some c → c = 0
  attempt : ∀ ch, (s.chan ch).attempt = none
  working : ∀ ch, (s.chan ch).state ≠ .waitingIndex ∧ (s.chan ch).state ≠ .writing ∧ (s.chan ch).state ≠ .verifying

theorem Fresh.window {s : State} (h : Fresh s) : WindowLaw s :=
  .of_fresh h.cursor h.slots h.first fun ch =>
    ⟨fun a tried => absurd (tried.symm.trans (h.attempt ch)) nofun, fun _ busy => by
      obtain ⟨waits, writes, verifies⟩ := h.working ch
      rcases busy with e | e | e
      · exact absurd e waits
      · exact absurd e writes
      · exact absurd e verifies⟩

/-- One channel has been replaced, with nothing of an attempt. -/
theorem Fresh.set {s t : State} (h : Fresh s) {ch : ChannelNo} {c : Channel} (channels : t.channels = s.channels.set ch c)
    (store : t.store = s.store) (first : ∀ n, c.cursor = some n → n = 0) (attempt : c.attempt = none)
    (working : c.state ≠ .waitingIndex ∧ c.state ≠ .writing ∧ c.state ≠ .verifying) : Fresh t := by
  have chan (d : ChannelNo) : t.chan d = (s.setChan ch c).chan d := by rw [State.chan, channels]; rfl
  have split (d : ChannelNo) : t.chan d = c ∨ t.chan d = s.chan d := by
    rw [chan]
    by_cases same : d = ch
    · subst same; exact .inl (State.chan_setChan_self _ _ _)
    · exact .inr (State.chan_setChan_ne _ _ same)
  refine ⟨by rw [store]; exact h.cursor, by rw [store]; exact h.slots, fun d n => ?_, fun d => ?_, fun d => ?_⟩
  · rcases split d with e | e <;> rw [e]
    · exact first n
    · exact h.first d n
  · rcases split d with e | e <;> rw [e]
    · exact attempt
    · exact h.attempt d
  · rcases split d with e | e <;> rw [e]
    · exact working
    · exact h.working d

/-- An enrolled channel is on its way to track 0. -/
theorem Channel.enroll_fields (c : Channel) (copy : CopyRecord) (density : Density) (head now : Nat) :
    (c.enroll copy density head now).cursor = some 0 ∧ (c.enroll copy density head now).attempt = c.attempt ∧
      ((c.enroll copy density head now).state = .recalibrating ∨ (c.enroll copy density head now).state = .seeking) := by
  unfold enroll enterRecalibrating
  dsimp only
  split
  · exact ⟨seekOn_cursor _ _ _ _, seekOn_attempt _ _ _ _, .inr (seekOn_state _ _ _ _)⟩
  · exact ⟨rfl, rfl, .inl rfl⟩

/-- A pass that is not busy leaves nothing in the window and no copy in a channel. -/
theorem Fresh.openPass {s : State} (pass : PassLaw s) (channels : ChannelsLaw s) (window : WindowLaw s)
    (closed : s.passOpen = false) (tag : Byte) (zero : ChannelSet) : Fresh (s.openPass tag zero) := by
  obtain ⟨-, slots⟩ := window.slots_of_closed closed
  have chan (ch : ChannelNo) : (s.openPass tag zero).chan ch =
      ((s.chan ch).modLines fun l => { l with trackZero := setHas zero ch }) := by
    simp [State.openPass, State.chan, State.mapChans]
  have off := pass.isCopy_eq_false closed
  have not (ch : ChannelNo) {st : ChState} (hst : st.isCopy = true) : (s.chan ch).state ≠ st := fun e => by
    have := off ch
    rw [e, hst] at this
    cases this
  refine ⟨rfl, slots, fun ch c at_ => ?_, fun ch => ?_, fun ch => ?_⟩
  · rw [chan] at at_
    have none := (channels.each ch).cursor
    rw [off, show (s.chan ch).cursor = some c from at_] at none
    cases none
  · rw [chan]
    exact ((channels.each ch).inner.copy.no_attempt ⟨not ch rfl, not ch rfl⟩).1
  · rw [chan]
    exact ⟨not ch rfl, not ch rfl, not ch rfl⟩

/-- The layout in force does not change while the pass is open (R150). -/
theorem TablesTurn.layout_eq {s : State} {tables : Tables} (h : TablesTurn s tables) (pass : PassLaw s)
    (opened : s.passOpen = true) : (s.withTables tables).layout = s.layout := by
  obtain ⟨j, job⟩ := Option.isSome_iff_exists.mp (pass.inForce opened).1
  have jobs : s.job = j := by rw [State.job, job]; rfl
  have same : tables.layouts[j.layoutIndex] = s.tables.layouts[j.layoutIndex] := by
    cases h with
    | layout i e valid free =>
      have apart : (i : Nat) ≠ j.layoutIndex := fun e => free ⟨opened, by rw [jobs]; exact Fin.ext e.symm⟩
      simp [apart]
    | patch | patchesCleared | precompD | precompH => rfl
  show (s.control.job.bind fun j => tables.layouts[j.layoutIndex]).getD Layout.blank = _
  rw [State.layout, job, Option.bind_some, Option.bind_some, same]

/-- Every operation keeps the law of the window, beside the laws of the Pass Controller and the channels. -/
theorem keptWindowLaw : Kept fun s => (PassLaw s ∧ ChannelsLaw s) ∧ WindowLaw s where
  clock n h later := ⟨keptChannelsLaw.clock n h.1 later, h.2.congr rfl rfl rfl rfl rfl rfl⟩
  link h turn :=
    ⟨keptChannelsLaw.link h.1 turn, h.2.congr turn.onlyLink.store (by rw [turn.onlyLink.control])
      (by rw [turn.onlyLink.control]) (by rw [turn.onlyLink.control]) turn.onlyLink.tables turn.onlyLink.channels⟩
  tables h turn :=
    ⟨keptChannelsLaw.tables h.1 turn, h.2.next rfl rfl rfl rfl (turn.layout_eq h.1.1) (fun _ => rfl) fun ch =>
      (h.2.working ch).congr rfl (fun _ _ _ found => found) rfl rfl rfl⟩
  append v h len room := ⟨keptChannelsLaw.append v h.1 len room, h.2.congr rfl rfl rfl rfl rfl rfl⟩
  clear h := ⟨keptChannelsLaw.clear h.1, h.2.congr rfl rfl rfl rfl rfl rfl⟩
  move {s ch d} h moved := by
    refine ⟨keptChannelsLaw.move h.1 moved, h.2.next rfl rfl rfl rfl (fun _ => rfl) (fun x => ?_) fun x => ?_⟩
    · by_cases same : x = ch
      · subst same; rw [State.chan_setChan_self]; exact moved.sameCopy.cursor
      · rw [State.chan_setChan_ne _ _ same]
    · by_cases same : x = ch
      · subst same
        rw [State.chan_setChan_self]
        exact (moved.working (h.1.2.each x) (h.2.working x)).congr rfl (fun _ _ _ found => found) rfl rfl rfl
      · rw [State.chan_setChan_ne _ _ same]
        exact (h.2.working x).congr rfl (fun _ _ _ found => found) rfl rfl rfl
  fails {s ch c} reason sort h copying failing := by
    have kept := keptChannelsLaw.fails reason sort h.1 copying failing
    exact ⟨kept, h.2.endCopy h.1.1 h.1.2 kept.1 kept.2 (fun _ => rfl) rfl rfl rfl fun d apart =>
      State.chan_setChan_ne _ _ apart⟩
  finishes {s ch a} h working held := by
    have kept := keptChannelsLaw.finishes h.1 working held
    refine ⟨kept, ?_⟩
    rw [State.finishTrack_eq] at kept ⊢
    split
    next last =>
      rw [if_pos last] at kept
      refine h.2.endCopy h.1.1 h.1.2 kept.1 kept.2 (fun i => ?_) rfl rfl rfl fun d apart =>
        State.chan_setChan_ne _ _ apart
      rw [State.trackDone_slot]
      split
      · exact Slot.release_release _ ch
      · rfl
    next more => exact h.2.nextTrack h.1.1 h.1.2 held
  settles {s ch} h st timer := by
    refine ⟨keptChannelsLaw.settles h.1 st timer, ?_⟩
    have self : (s.settled ch).chan ch = ({ s.chan ch with
        settleTimer := none, activePrecomp := (s.chan ch).precompValue s.precomp, attempts := 0 } : Channel).enter
        (if s.trackIsReady ((s.chan ch).cursor.getD 0) then .waitingIndex else .waitingTrack) s.now :=
      State.chan_setChan_self _ _ _
    have other (d : ChannelNo) (apart : d ≠ ch) : (s.settled ch).chan d = s.chan d := State.chan_setChan_ne _ _ apart
    refine h.2.next rfl rfl rfl rfl (fun _ => rfl) (fun d => ?_) fun d => ?_
    · by_cases same : d = ch
      · subst same; rw [self]; rfl
      · rw [other d same]
    · by_cases same : d = ch
      · subst same
        rw [self]
        obtain ⟨none, -⟩ := (h.1.2.each d).inner.copy.no_attempt (by rw [st]; exact ⟨nofun, nofun⟩)
        refine ⟨fun a tried => absurd (tried.symm.trans none) nofun, fun stream busy => ?_⟩
        obtain ⟨n, at_⟩ := Option.isSome_iff_exists.mp
          ((h.1.2.each d).inner.copy.cursor_isSome (by rw [st]; rfl))
        refine ⟨n, at_, ?_⟩
        have ready : s.trackIsReady n = true := by
          rw [at_] at busy
          refine Classical.byContradiction fun waits => ?_
          rw [show s.trackIsReady ((some n).getD 0) = false from (Bool.not_eq_true _).mp waits] at busy
          rcases busy with e | e | e <;> cases e
        have streams : s.formatOnly = false := stream
        rw [State.trackIsReady, streams, Bool.false_or] at ready
        exact ready
      · rw [other d same]
        exact (h.2.working d).congr rfl (fun _ _ _ found => found) rfl rfl rfl
  placed {s ch r rest} h st first := by
    have kept := keptChannelsLaw.placed h.1 st first
    refine ⟨kept, ?_⟩
    have onward := Channel.afterResult_onward { (s.chan ch).handedOver rest with copy := none } ch s.now
      ((s.chan ch).copy.bind (·.sort))
    have self : (s.resultPlaced ch rest).chan ch =
        ({ (s.chan ch).handedOver rest with copy := none } : Channel).afterResult ch ((s.chan ch).copy.bind (·.sort))
          s.now := State.chan_setChan_self _ _ _
    have other (d : ChannelNo) (apart : d ≠ ch) : (s.resultPlaced ch rest).chan d = s.chan d :=
      State.chan_setChan_ne _ _ apart
    refine h.2.next (t := s.resultPlaced ch rest) rfl rfl rfl rfl (fun _ => rfl) (fun d => ?_) fun d => ?_
    · by_cases same : d = ch
      · subst same; rw [self, onward.cursor]; rfl
      · rw [other d same]
    · by_cases same : d = ch
      · subst same
        exact (kept.2.each d).working (by rw [self]; exact onward.off.1) _
      · rw [other d same]
        exact (h.2.working d).congr rfl (fun _ _ _ found => found) rfl rfl rfl
  job {s body j} h idle read := by
    have kept := keptChannelsLaw.job h.1 idle read
    have closed := (State.passBusy_eq_false_iff.mp idle).1
    obtain ⟨cursor, slots⟩ := h.2.slots_of_closed closed
    exact ⟨kept, .of_closed kept.1 kept.2 closed cursor slots⟩
  begins {s tag} zero h mayBegin := by
    refine ⟨keptChannelsLaw.begins zero h.1 mayBegin, ?_⟩
    have idle : s.passBusy = false := by
      unfold State.passBeginRefusal at mayBegin
      split at mayBegin
      · cases mayBegin
      · split at mayBegin
        · cases mayBegin
        next idle => exact (Bool.not_eq_true _).mp idle
    obtain ⟨u, only, e⟩ := s.beginPass_onlyLink tag zero
    have dealt : Fresh (s.dealt tag zero).state := by
      refine State.dealt_induct (.openPass h.1.1 h.1.2 h.2 (State.passBusy_eq_false_iff.mp idle).1 tag zero)
        (fun u ch fresh st => ?spins) fun u ch fresh st _ => ?enrolls
      case spins =>
        have onward := (u.chan ch).enterSpinup_onward ch u.now
        have not {st : ChState} (hst : st.isCopy = true) : ((u.chan ch).enterSpinup ch u.now).state ≠ st := fun e => by
          have := onward.off.1
          rw [e, hst] at this
          cases this
        refine fresh.set rfl rfl (fun n at_ => ?_) (onward.attempt.trans (fresh.attempt ch)) ⟨not rfl, not rfl, not rfl⟩
        rw [onward.cursor] at at_
        exact fresh.first ch n at_
      case enrolls =>
        obtain ⟨cursor, attempt, state⟩ := (u.chan ch).enroll_fields
          (CopyRecord.enrolled u.control.pass.tag u.control.copyNumber u.serialTaken) u.layout.density (u.layout.headOf 0)
          u.now
        refine fresh.set rfl rfl (fun n at_ => ?_) (attempt.trans (fresh.attempt ch)) ?_
        · rw [cursor] at at_; exact (Option.some.inj at_).symm
        · rcases state with st | st <;> rw [st] <;> exact ⟨nofun, nofun, nofun⟩
    have window : WindowLaw u := by
      refine dealt.window.congr only.store ?_ ?_ ?_ only.tables only.channels <;> rw [only.control]
    have fresh : u.store.fillCursor = 0 ∧ ∀ i : Fin 8, u.store.slots[i].state = .free := by
      rw [only.store]; exact ⟨dealt.cursor, fun i => (dealt.slots i).1⟩
    have kept := keptChannelsLaw.begins zero h.1 mayBegin
    rw [e] at kept ⊢
    cases closed : u.closeIfEmpty.passOpen with
    | false =>
      have same : u.closeIfEmpty.store = u.store := by unfold State.closeIfEmpty; split <;> rfl
      refine .of_closed kept.1 kept.2 closed (by rw [same]; exact fresh.1) fun i => ?_
      rw [same]
      exact ⟨fresh.2 i, window.free i (fresh.2 i)⟩
    | true =>
      unfold State.closeIfEmpty at closed ⊢
      split
      next empty => rw [if_pos empty] at closed; cases closed
      next => exact window
  aborts {s} reason close h running := by
    have kept := keptChannelsLaw.aborts reason close h.1 running
    obtain ⟨-, -, ⟨state, -⟩, -, -, ⟨cursor, slots⟩, -⟩ := s.abortPass_ended reason close
    exact ⟨kept, .of_closed kept.1 kept.2 (by rw [State.passOpen, state]; rfl) cursor slots⟩
  closes h nobody := ⟨keptChannelsLaw.closes h.1 nobody, h.2.congr rfl rfl rfl rfl rfl rfl⟩
  written {s body i} h fate := by
    refine ⟨keptChannelsLaw.written h.1 fate, ?_⟩
    obtain ⟨opened, -, -, slot⟩ := State.segmentFate_ne fate nofun nofun
    obtain ⟨track, open_⟩ := State.slotFate_written slot
    have filling : s.store.slots[i].state = .filling := by
      have some := h.2.slotsOk.ne_free track
      cases st : s.store.slots[i].state with
      | free => exact absurd st some
      | filling => rfl
      | complete => exact absurd st open_
    exact h.2.acceptSegment h.1.1 h.1.2 opened filling track body
  allotted {s body i} h fate := by
    refine ⟨keptChannelsLaw.allotted h.1 fate, ?_⟩
    obtain ⟨opened, stream, fits, slot⟩ := State.segmentFate_ne fate nofun nofun
    obtain ⟨at_, free, none⟩ := State.slotFate_allocated slot
    have below : s.store.fillCursor < s.layout.tracks := by
      obtain ⟨low, -, -, -⟩ := Layout.segmentReason_none fits
      have : num1 body 1 = s.store.fillCursor := at_
      omega
    have window := h.2.allocate opened stream free none below
    have pass : PassLaw (s.allocate i s.store.fillCursor) := h.1.1.congr rfl fun _ => .of_same rfl rfl
    have channels : ChannelsLaw (s.allocate i s.store.fillCursor) := h.1.2.congr rfl rfl
    rw [at_]
    refine window.acceptSegment (n := s.store.fillCursor) pass channels opened ?_ ?_ body
    · simp [State.allocate, Slot.allocated]
    · simp [State.allocate, Slot.allocated]
  partReset {s} h := by
    have kept := keptChannelsLaw.partReset h.1
    have only := s.blocksReset.place_onlyLink (.resetDone (setCard s.control.pass.enrolled) s.boundSerials.length)
    refine ⟨kept, ?_⟩
    rw [State.partReset_eq] at kept ⊢
    refine .of_closed kept.1 kept.2 (by rw [State.passOpen, only.control]; rfl) (by rw [only.store]; rfl) fun i => ?_
    rw [only.store]
    show s.store.cleared.slots[i].state = _ ∧ _
    simp [TrackStore.cleared, Slot.freed, State.blocksReset]
  powerOn {s t} a b h e := by
    have kept := keptChannelsLaw.powerOn a b h.1 e
    refine ⟨kept, ?_⟩
    cases e
    refine .of_closed kept.1 kept.2 rfl rfl fun i => ?_
    show s.store.cleared.slots[i].state = _ ∧ _
    simp [TrackStore.cleared, Slot.freed]

/-- Settles O10: each operation that the commands are made of keeps the law of the window beside those of the Pass Controller
and the channels. -/
theorem stepKeepsWindowLaw : Obligations.StepKeepsWindowLaw := fun _ _ h e =>
  (keptWindowLaw.step
    (fun _ h => ⟨⟨h.1.1.congr rfl fun _ => .of_same rfl rfl, h.1.2.congr rfl rfl⟩, h.2.congr rfl rfl rfl rfl rfl rfl⟩)
    ⟨⟨h.pass, h.channels⟩, h.window⟩ e).2

end Sys2Proof.Machine
end

section
/-!
The reset state (R1 to R189) and the power-on reset: the values of every block, and that the laws hold from the reset on.
-/

namespace Sys2Proof.Machine

/-- Settles O1: the step looks at the queue of waiting commands alone. -/
theorem stepTakesTheFrontCommand : Obligations.StepTakesTheFrontCommand := by
  refine ⟨fun s c rest front => ?_, fun s empty => ?_⟩
  · rw [step, front]
  · have idles : step s = .next s.idle := by rw [step, empty]
    exact idles

/-! ### The reset state -/

@[simp] theorem State.reset_chan (ch : ChannelNo) : State.reset.chan ch = Channel.initial := by
  simp [State.reset, State.chan]

@[simp] theorem State.reset_slot (i : Fin 8) : State.reset.store.slots[i] = Slot.initial := by simp [State.reset]

/-- Settles O3: the tables, the slots and the channels of the reset state are each alike, and all else is written down in
it. -/
theorem resetGivesThePowerOnValues : Obligations.ResetGivesThePowerOnValues := by
  refine ⟨fun i => by simp [State.reset], fun i => by simp [State.reset], rfl, rfl, rfl, rfl, rfl, rfl, fun i => ?slot,
    rfl, rfl, rfl, rfl, rfl, rfl, rfl, fun ch => ?channel⟩
  case slot =>
    rw [State.reset_slot]
    exact ⟨rfl, rfl, rfl, rfl⟩
  case channel =>
    simp only [State.reset_chan]
    exact ⟨rfl, rfl, rfl, rfl, rfl, rfl, rfl, rfl, rfl, rfl, rfl, rfl, rfl, rfl, rfl, rfl, rfl, rfl, rfl, rfl, rfl, rfl, rfl,
      rfl, rfl, rfl⟩

/-! ### The laws in the reset state -/

theorem tablesLaw_reset : TablesLaw State.reset := by
  refine ⟨fun i l entry => ?_, fun i p entry => ?_, ⟨Nat.zero_le _, Nat.zero_le _⟩, ⟨Nat.zero_le _, Nat.zero_le _⟩,
    fun j job => ?_, fun ch => ?_, fun ch r held => ?_, fun i => ?_⟩
  · simp [State.reset] at entry
  · simp [State.reset] at entry
  · cases job
  · rw [State.reset_chan]
    decide
  · rw [State.reset_chan] at held
    cases held
  · rw [State.reset_slot]
    rfl

theorem linkLaw_reset : LinkLaw State.reset :=
  linkLaw_iff.mpr ⟨.settled (Nat.zero_le _) nofun nofun nofun, Nat.zero_le _, Nat.zero_le _, nofun, fun _ => rfl, Nat.zero_le _⟩

theorem poolLaw_reset : PoolLaw State.reset := by
  refine ⟨?_, nofun, fun ch v held => ?_⟩
  · decide
  · rw [State.reset_chan] at held
    cases held

theorem passLaw_reset : PassLaw State.reset := by
  refine .of_nobody rfl rfl rfl (fun ch => ?_) (fun _ => Nat.zero_le _) rfl (Nat.zero_le _) one_in_range (Nat.zero_le _)
  rw [State.reset_chan]
  exact ⟨rfl, rfl⟩

theorem channelsLaw_reset : ChannelsLaw State.reset := by
  refine .of_no_copies (fun ch => ?_) fun ch => ?_
  · rw [State.reset_chan]
    exact Channel.powerOn_law ch Channel.initial
  · rw [State.reset_chan]
    rfl

theorem windowLaw_reset : WindowLaw State.reset :=
  .of_closed passLaw_reset channelsLaw_reset rfl rfl fun i => by
    rw [State.reset_slot]
    exact ⟨rfl, rfl, rfl, rfl⟩

/-- Settles O4: law by law. -/
theorem resetMeetsTheLaws : Obligations.ResetMeetsTheLaws :=
  ⟨tablesLaw_reset, linkLaw_reset, poolLaw_reset, passLaw_reset, channelsLaw_reset, windowLaw_reset⟩

/-! ### The power-on reset (R174) -/

/-- Freed, a slot keeps its data area and nothing else (R37). -/
theorem TrackStore.cleared_slot (store : TrackStore) (i : Fin 8) : store.cleared.slots[i] = store.slots[i].freed := by
  simp [TrackStore.cleared]

/-- Settles O45: the state after the reset is written down in the model, the slots and the channels one by one. -/
theorem powerOnResetSetsEveryBlock : Obligations.PowerOnResetSetsEveryBlock := by
  intro s a b
  refine ⟨_, rfl, rfl, rfl, rfl, rfl, rfl, rfl, fun i x => ?data, fun i => ?slot, fun ch => ?channel, rfl, rfl⟩
  case data =>
    dsimp only
    rw [TrackStore.cleared_slot]
    rfl
  case slot =>
    dsimp only
    rw [TrackStore.cleared_slot]
    exact ⟨rfl, rfl, rfl, rfl⟩
  case channel =>
    rw [State.reset_chan]
    simp [State.chan, Channel.powerOn, Lines.initial]

end Sys2Proof.Machine
end

section
/-!
The taking of a TRACK-SEGMENT (R21 to R31), where it is not out of place: set aside, waiting, refused against the layout,
or written into its slot.
-/

namespace Sys2Proof.Machine

/-! ### The slot that holds a track, and the lowest FREE slot (R24, R28) -/

/-- The lowest-numbered slot with a property is the one that has it with none below it. -/
theorem State.findSlot_eq_some {s : State} {p : Slot → Bool} {i : Fin 8} (found : p s.store.slots[i] = true)
    (below : ∀ j : Fin 8, j < i → p s.store.slots[j] = false) : s.findSlot p = some i := by
  obtain ⟨k, at_k⟩ := State.exists_findSlot_eq_some found
  obtain ⟨has, least⟩ := State.findSlot_some at_k
  rcases Nat.lt_trichotomy k.val i.val with lower | same | higher
  · exact absurd ((below k lower).symm.trans has) nofun
  · rw [at_k, Fin.ext same]
  · exact absurd ((least i higher).symm.trans found) nofun

/-- A segment for a track that one slot holds is written there, or is discarded if the slot is COMPLETE (R24). -/
theorem State.slotFate_of_held {s : State} {t : Nat} {i : Fin 8}
    (held : ∀ j : Fin 8, s.store.slots[j].track = some t ↔ j = i) :
    s.slotFate t = if s.store.slots[i].state = .complete then .discarded else .written i := by
  have found : (s.findSlot fun sl => sl.track == some t) = some i :=
    State.findSlot_eq_some (beq_iff_eq.mpr ((held i).mpr rfl)) fun j lower =>
      beq_eq_false_iff_ne.mpr fun holds => absurd ((held j).mp holds) (Fin.ne_of_lt lower)
  rw [State.slotFate, found]

/-- The answer to a segment that passes R21 to R23: its fate by the slots and the fill cursor. -/
theorem SegmentChecked.exec_eq {s : State} {t k0 c : Byte} {data : List Byte} (h : SegmentChecked s t k0 c data) :
    exec .trackSegment s =
      .next (s.applyFate (s.control.pass.tag :: t :: k0 :: c :: data) (s.slotFate t.toNat)) := by
  rw [exec_trackSegment h.head, h.segmentFate_eq]

/-- Settles O19: the three fates that change no slot. -/
theorem segmentIsSetAsideOrWaits : Obligations.SegmentIsSetAsideOrWaits := by
  refine ⟨fun s body head stray => ?stale, fun s t k0 c data i checked held complete => ?discarded,
    fun s t k0 c data checked at_cursor full => ?waits⟩
  case stale =>
    have unmatched : s.tagMatches body = false := by
      rw [State.tagMatches]
      rcases stray with closed | other
      · rw [closed, Bool.false_and]
      · rw [beq_eq_false_iff_ne.mpr other, Bool.and_false]
    rw [exec_trackSegment head, State.segmentFate, unmatched]
    rfl
  case discarded =>
    rw [checked.exec_eq, State.slotFate_of_held held, if_pos complete]
    exact congrArg _ s.dropHead_eq
  case waits =>
    have no_filling : (s.findSlot fun sl => sl.state == .filling) = none :=
      State.findSlot_eq_none_iff.mpr fun j => by rw [(full j).1]; rfl
    have no_free : (s.findSlot fun sl => sl.state == .free) = none :=
      State.findSlot_eq_none_iff.mpr fun j => by rw [(full j).1]; rfl
    rw [checked.exec_eq, State.slotFate_of_not_held fun j => (full j).2, at_cursor, no_filling, no_free]
    simp [State.applyFate]

/-! ### The refusals of R22 and R23 -/

/-- A segment of the open pass that a check refuses. -/
theorem exec_trackSegment_refused_tagged {s : State} {rest : List Byte} {reason : SegmentReason}
    (head : s.headIs 0x10 (s.control.pass.tag :: rest) 1)
    (fate : s.segmentFate (s.control.pass.tag :: rest) = .refused reason) :
    exec .trackSegment s = .next (s.answered [.segmentRefused s.control.pass.tag (rest.headD 0) reason]) := by
  have track_byte : byteAt (s.control.pass.tag :: rest) 1 = rest.headD 0 := by cases rest <;> rfl
  rw [exec_trackSegment head, fate, ← track_byte]
  exact congrArg _ (State.place_dropHead head.2 _)

/-- Settles O20: R22 first, then the checks of R23 in their order. -/
theorem segmentOffTheLayoutIsRefused : Obligations.SegmentOffTheLayoutIsRefused := by
  intro s rest head opened
  have tagged : s.tagMatches (s.control.pass.tag :: rest) = true := by
    simp only [State.tagMatches, opened, List.head?_cons, BEq.rfl, Bool.and_self]
  have off_layout {reason : SegmentReason} (stream : s.formatOnly = false)
      (off : s.layout.segmentReason (s.control.pass.tag :: rest) = some reason) :
      exec .trackSegment s = .next (s.answered [.segmentRefused s.control.pass.tag (rest.headD 0) reason]) :=
    exec_trackSegment_refused_tagged head (by rw [State.segmentFate, if_pos tagged, stream, off]; rfl)
  refine ⟨fun fill => exec_trackSegment_refused_tagged head ?noImage, fun stream short => off_layout stream ?short,
    fun t k0 c data stream whole => ?whole⟩
  case noImage => rw [State.segmentFate, if_pos tagged, if_pos fill]
  case short =>
    rw [Layout.segmentReason, if_pos]
    rw [List.length_cons]
    omega
  case whole =>
    subst whole
    have track_field : num1 (s.control.pass.tag :: t :: k0 :: c :: data) 1 = t.toNat := rfl
    have first_field : num1 (s.control.pass.tag :: t :: k0 :: c :: data) 2 = k0.toNat := rfl
    have count_field : num1 (s.control.pass.tag :: t :: k0 :: c :: data) 3 = c.toNat := rfl
    have long : ¬(s.control.pass.tag :: t :: k0 :: c :: data).length < 4 := by
      simp only [List.length_cons]
      omega
    have count_zero : c.toNat = 0 ↔ c = 0 := ⟨fun zero => BitVec.eq_of_toNat_eq zero, fun zero => by rw [zero]; rfl⟩
    have reasons (reason : SegmentReason)
        (off : s.layout.segmentReason (s.control.pass.tag :: t :: k0 :: c :: data) = some reason) :
        exec .trackSegment s = .next (s.answered [.segmentRefused s.control.pass.tag t reason]) := off_layout stream off
    simp only [Layout.segmentReason, if_neg long, track_field, first_field, count_field, count_zero] at reasons
    refine ⟨fun beyond => reasons _ ?_, fun track off => reasons _ ?_, fun track some_sector sectors off => reasons _ ?_⟩
    · rw [if_pos beyond]
    · rw [if_neg (Nat.not_le.mpr track), if_pos off]
    · rw [if_neg (Nat.not_le.mpr track), if_neg (not_or.mpr ⟨some_sector, Nat.not_lt.mpr sectors⟩), if_pos]
      simp only [List.length_cons]
      omega

/-! ### The segment that is written (R24, R28 to R31) -/

/-- Settles O22: the segment goes into the slot that holds its track. -/
theorem segmentFillsItsSlot : Obligations.SegmentFillsItsSlot := by
  intro s t k0 c data i checked held filling
  refine ⟨_, checked.exec_eq, ?_⟩
  have open_ : s.store.slots[i].state ≠ .complete := by rw [filling]; nofun
  rw [State.slotFate_of_held held, if_neg open_]
  exact s.acceptSegment_taken i _ t.toNat filling ((held i).mpr rfl)

/-- What a segment comes to in the slot that it has been allocated (R28). -/
theorem SegmentTaken.of_allocate {s u : State} {i : Fin 8} {t k0 c : Nat} {data : List Byte}
    (h : SegmentTaken (s.allocate i t) u i (s.allocate i t).store.slots[i] t k0 c data) :
    SegmentTaken s u i ⟨.filling, some t, 0, s.control.pass.live, s.store.slots[i].data⟩ t k0 c data := by
  have start : (s.allocate i t).store.slots[i] =
      ⟨.filling, some t, 0, s.control.pass.live, s.store.slots[i].data⟩ := by simp [State.allocate, Slot.allocated]
  have others (j : Fin 8) (apart : j ≠ i) : (s.allocate i t).store.slots[j] = s.store.slots[j] := by
    have apart : (i : Nat) ≠ j := fun e => apart (Fin.ext e.symm)
    simp [State.allocate, apart]
  rw [start] at h
  obtain ⟨present, track, claims, state, written, kept, rest_slots, told, timer, rest⟩ := h
  refine ⟨present, track, claims, state, written, fun a outside => ?_, fun j apart => ?_, told, timer, rest⟩
  · rw [kept a outside, start]
  · rw [rest_slots j apart, others j apart]

/-- Settles O23: the lowest FREE slot is allocated, and the segment is written there as into any FILLING slot. -/
theorem segmentTakesTheLowestFreeSlot : Obligations.SegmentTakesTheLowestFreeSlot := by
  intro s t k0 c data i checked at_cursor none_holds free below
  have no_filling : (s.findSlot fun sl => sl.state == .filling) = none :=
    State.findSlot_eq_none_iff.mpr fun j => beq_eq_false_iff_ne.mpr (none_holds j).2
  have lowest_free : (s.findSlot fun sl => sl.state == .free) = some i :=
    State.findSlot_eq_some (beq_iff_eq.mpr free) fun j lower => by rw [below j lower]; rfl
  have fate : s.slotFate t.toNat = .allocated i := by
    rw [State.slotFate_of_not_held fun j => (none_holds j).1, no_filling, lowest_free, at_cursor]
    simp
  refine ⟨_, checked.exec_eq, ?_⟩
  rw [fate]
  have filling : (s.allocate i t.toNat).store.slots[i].state = .filling := by simp [State.allocate, Slot.allocated]
  have track : (s.allocate i t.toNat).store.slots[i].track = some t.toNat := by simp [State.allocate, Slot.allocated]
  obtain ⟨taken, cursor⟩ := (s.allocate i t.toNat).acceptSegment_taken i
    (s.control.pass.tag :: t :: k0 :: c :: data) t.toNat filling track
  exact ⟨taken.of_allocate, cursor⟩

end Sys2Proof.Machine
end

section
/-!
The taking of the head frame (R170, R171): the commands of each kind, the wrong length, and the frames that wait; with the
commands of PASS-ABORT, CHANNEL-CONTROL and PART-RESET.
-/

namespace Sys2Proof.Machine

/-! ### The commands of a kind -/

/-- The command takes head frames of a kind, those that are meant for it. -/
def Takes (c : Instr) (kind : Byte) : Prop := ∃ mine act, ∀ s : State, exec c s = .next (s.takeFrame kind mine act)

/-- Each command of a kind takes frames of that kind, where the kind is not a segment's or a PART-RESET's. -/
theorem takes_of_mem_commandsOf {c : Instr} {kind : Byte} {trackZero : ChannelSet} (mem : c ∈ commandsOf kind trackZero)
    (no_segment : kind ≠ 0x10) (no_reset : kind ≠ 0x5F) : Takes c kind := by
  have takes {c : Instr} {kind : Byte} (mine : List Byte → Bool) (act : List Byte → State → State)
      (taken : ∀ s, exec c s = .next (s.takeFrame kind mine act)) : Takes c kind := ⟨mine, act, taken⟩
  rw [commandsOf, if_neg no_segment] at mem
  repeat'
    split at mem
    · subst kind
      simp only [List.mem_cons, List.not_mem_nil, or_false] at mem
      rcases mem with rfl | rfl | rfl | rfl | rfl | rfl | rfl | rfl <;> exact takes _ _ fun _ => rfl
  cases mem

/-- A command that takes the head frame is TRACK_SEGMENT, or belongs to another kind but PART-RESET's. -/
theorem frameCommands_cases {c : Instr} {trackZero : ChannelSet} (mem : c ∈ frameCommands trackZero) :
    c = .trackSegment ∨ ∃ kind : Byte, kind ≠ 0x10 ∧ kind ≠ 0x5F ∧ c ∈ commandsOf kind trackZero := by
  have kinds : frameCommands trackZero =
      .trackSegment :: ([0x20, 0x21, 0x30, 0x31, 0x40, 0x50] : List Byte).flatMap (commandsOf · trackZero) := rfl
  rw [kinds, List.mem_cons, List.mem_flatMap] at mem
  refine mem.imp_right fun ⟨kind, listed, mem⟩ => ⟨kind, ?_, ?_, mem⟩
  all_goals
    rintro rfl
    revert listed
    decide

/-! ### Wrong lengths (R170) -/

/-- The lengths of the kinds of R185. -/
theorem Frame.lengthOk_eq_false {kind : Byte} {body : List Byte}
    (wrong : kind = 0x20 ∧ body.length < 4 ∨ kind = 0x21 ∧ body.length ≠ 14 ∨
      (kind = 0x30 ∨ kind = 0x31) ∧ body.length ≠ 1 ∨ (kind = 0x40 ∨ kind = 0x50) ∧ body.length ≠ 2) :
    Frame.lengthOk ⟨.ready, kind, body⟩ = false := by
  rcases wrong with ⟨rfl, short⟩ | ⟨rfl, other⟩ | ⟨rfl | rfl, other⟩ | ⟨rfl | rfl, other⟩
  · exact decide_eq_false (Nat.not_le.mpr short)
  all_goals exact beq_eq_false_iff_ne.mpr other

/-- Settles O17: whichever command takes the frame, its length is looked at before it acts. -/
theorem wrongLengthIsAnswered : Obligations.WrongLengthIsAnswered := by
  intro s kind body trackZero head wrong c mem
  have kinds : kind ≠ 0x10 ∧ kind ≠ 0x5F := by
    rcases wrong with ⟨rfl, -⟩ | ⟨rfl, -⟩ | ⟨rfl | rfl, -⟩ | ⟨rfl | rfl, -⟩ <;> decide
  obtain ⟨mine, act, taken⟩ := takes_of_mem_commandsOf mem kinds.1 kinds.2
  rw [taken, State.takeFrame_length head (Frame.lengthOk_eq_false wrong)]

/-! ### A frame that waits (R170, R171) -/

/-- The free entries that a frame needs: none for a PART-RESET, one for each report of a STATUS-QUERY, else one. -/
theorem Frame.entriesNeeded_eq (f : Frame) :
    f.entriesNeeded =
      if f.kind = 0x5F then 0 else if f.kind = 0x50 ∧ f.body.length = 2 then 1 + setCard (byteAt f.body 1) else 1 := by
  by_cases query : f.kind = 0x50
  · have ok : f.lengthOk = true ↔ f.body.length = 2 := by
      simp [Frame.lengthOk, query]
    simp [Frame.entriesNeeded, query, ok]
  · simp only [Frame.entriesNeeded, query, false_and, if_false]

/-- TRACK_SEGMENT leaves a frame of another kind, or one that too few entries are free for. -/
theorem exec_trackSegment_waits {s : State} {f : Frame} (head : s.headFrame = some f)
    (waits : f.kind ≠ 0x10 ∨ s.freeEntries < f.entriesNeeded) : exec .trackSegment s = .next s := by
  change execTrackSegment s = _
  rw [execTrackSegment, head]
  refine congrArg _ (if_neg fun ⟨kind, room⟩ => ?_)
  rcases waits with other | few
  · exact other kind
  · omega

/-- A command that takes the head frame leaves one of a kind that it does not take, or that too few entries are free for. -/
theorem exec_frameCommand_waits {s : State} {f : Frame} {c : Instr} {trackZero : ChannelSet} (head : s.headFrame = some f)
    (mem : c ∈ frameCommands trackZero)
    (waits : c ∉ commandsOf f.kind trackZero ∨ s.freeEntries < f.entriesNeeded) : exec c s = .next s := by
  rcases frameCommands_cases mem with rfl | ⟨kind, no_segment, no_reset, mem⟩
  · exact exec_trackSegment_waits head (waits.imp_left fun other same => other (by rw [same]; exact List.mem_singleton_self _))
  · obtain ⟨mine, act, taken⟩ := takes_of_mem_commandsOf mem no_segment no_reset
    rw [taken, State.takeFrame_waits head (waits.imp_left fun other same => other (same ▸ mem))]

/-- Settles O18: too few entries for the frame, or a command of another kind. -/
theorem headFrameWaits : Obligations.HeadFrameWaits := by
  refine ⟨fun s f trackZero head no_reset few c mem => exec_frameCommand_waits head mem (.inr ?_),
    fun s f trackZero head c mem other => exec_frameCommand_waits head mem (.inl other)⟩
  rw [Frame.entriesNeeded_eq, if_neg no_reset]
  exact few

/-! ### PASS-ABORT and the closure report (R53, R54, R57) -/

/-- A PASS-ABORT at the head, with a report entry free, is acted on and leaves its entry. -/
theorem exec_passAbort {s : State} {tag : Byte} (head : s.headIs 0x31 [tag] 1) :
    exec .passAbort s = .next (s.passAbort [tag]).dropHead :=
  congrArg _ (State.takeFrame_taken head (Nat.le_refl _) rfl rfl _)

/-- Settles O37: both ends of a pass are `State.abortPass`. -/
theorem abortEndsEveryLiveCopy : Obligations.AbortEndsEveryLiveCopy := by
  refine ⟨fun s head opened => ⟨s.abortPass .passAborted .aborted, ?_, s.abortPass_ended _ _⟩, fun s due running =>
    ⟨(s.reach due).abortPass .passStarved .starved, ?_, (s.reach due).abortPass_ended _ _⟩⟩
  · have tagged : ¬byteAt [s.control.pass.tag] 0 ≠ s.control.pass.tag := not_not_intro rfl
    rw [exec_passAbort head, State.passAbort, opened, if_neg (by decide), if_neg tagged, State.dropHead_eq]
  · change execStarvationTimeout s = _
    rw [execStarvationTimeout, running]

/-- A CHANNEL-CONTROL that CHANNEL_CONTROL_REFUSED is meant for is answered by a refusal. -/
theorem exec_channelControlRefused {s : State} {body : List Byte} (head : s.headIs 0x40 body 1) (length : body.length = 2)
    (refused : controlRefused body = true) :
    exec .channelControlRefused s =
      .next (s.answered [.commandRefused 0x40 (if 8 ≤ num1 body 0 then .channelRange else .value) 0]) := by
  have length_ok : Frame.lengthOk ⟨.ready, 0x40, body⟩ = true := beq_iff_eq.mpr length
  refine congrArg _ ((State.takeFrame_taken head (Nat.le_refl _) length_ok refused _).trans ?_)
  exact State.place_dropHead head.2 _

/-- Settles O38: the refusals in their order. -/
theorem commandsAreRefused : Obligations.CommandsAreRefused := by
  refine ⟨fun s tag head => ⟨fun closed => ?noPass, fun opened other => ?tagMismatch⟩,
    fun s channel action head => ⟨fun beyond => ?channelRange, fun within unknown => ?value⟩⟩
  case noPass =>
    rw [exec_passAbort head, State.passAbort, closed, if_pos (by decide), State.place_dropHead head.2]
  case tagMismatch =>
    have differs : byteAt [tag] 0 ≠ s.control.pass.tag := other
    rw [exec_passAbort head, State.passAbort, opened, if_neg (by decide), if_pos differs, State.place_dropHead head.2]
  all_goals have number : num1 [channel, action] 0 = channel.toNat := rfl
  case channelRange =>
    rw [exec_channelControlRefused head rfl, if_pos (number ▸ beyond)]
    rw [controlRefused, decide_eq_true (number ▸ beyond), Bool.true_or]
  case value =>
    rw [exec_channelControlRefused head rfl, if_neg (number ▸ Nat.not_le.mpr within)]
    have field : byteAt [channel, action] 1 = action := rfl
    simp only [List.mem_cons, List.not_mem_nil, or_false, not_or] at unknown
    obtain ⟨no_enable, no_disable, no_action_reset⟩ := unknown
    rw [controlRefused, field, beq_eq_false_iff_ne.mpr no_enable, beq_eq_false_iff_ne.mpr no_disable,
      beq_eq_false_iff_ne.mpr no_action_reset]
    exact Bool.or_true _

/-- Settles O39: the two conditions of R53. -/
theorem passClosedIsPlacedLast : Obligations.PassClosedIsPlacedLast := by
  intro s c held
  have free : 0 < s.freeEntries ↔ s.reports.length < 32 := Nat.sub_pos_iff_lt
  change execPassClosedPlaced s = _
  rw [execPassClosedPlaced, held]
  simp only [free]
  split
  next both =>
    rw [State.place_eq (free.mpr both.2)]
    rfl
  next => rfl

end Sys2Proof.Machine
end

section
/-!
The control of the channels (R66, R86 to R88) and the part reset (R172): what each action comes to, by the channel's state.
-/

namespace Sys2Proof.Machine

/-! ### The head CHANNEL-CONTROL -/

/-- The frame leaves its entry, and a channel changes. -/
theorem State.setChan_dropHead (s : State) (ch : ChannelNo) (c : Channel) :
    (s.setChan ch c).dropHead = (s.answered []).setChan ch c := by
  rw [← s.dropHead_eq]
  rfl

/-- A CHANNEL-CONTROL at the head is for the command of its action. -/
theorem State.takeFrame_control {s : State} {ch : ChannelNo} {action : Byte}
    (head : s.headIs 0x40 [BitVec.ofNat 8 ch, action] 1) (act : ChannelNo → State → State) :
    s.takeFrame kindChannelControl (controlIs action) (fun body => act (controlChannel body)) = (act ch s).dropHead := by
  have number : num1 [BitVec.ofNat 8 ch.val, action] 0 < 8 := by
    have channel : (BitVec.ofNat 8 ch.val).toNat = ch.val := toNat_byte_of_le (by omega)
    exact Nat.lt_of_le_of_lt (Nat.le_of_eq channel) ch.isLt
  have mine : controlIs action [BitVec.ofNat 8 ch.val, action] = true := by
    rw [controlIs, decide_eq_true number]
    exact BEq.rfl
  rw [State.takeFrame_taken head (Nat.le_refl _) rfl mine, controlChannel_ofNat]

theorem exec_channelEnable {s : State} {ch : ChannelNo} (head : s.headIs 0x40 [BitVec.ofNat 8 ch, 0x01] 1) :
    exec .channelEnable s = .next (s.enable ch).dropHead :=
  congrArg _ (State.takeFrame_control head fun ch s => s.enable ch)

theorem exec_channelDisable {s : State} {ch : ChannelNo} (head : s.headIs 0x40 [BitVec.ofNat 8 ch, 0x02] 1) :
    exec .channelDisable s = .next (s.disable ch).dropHead :=
  congrArg _ (State.takeFrame_control head fun ch s => s.disable ch)

theorem exec_channelReset {s : State} {ch : ChannelNo} (head : s.headIs 0x40 [BitVec.ofNat 8 ch, 0x03] 1) :
    exec .channelReset s = .next (s.channelReset ch).dropHead :=
  congrArg _ (State.takeFrame_control head fun ch s => s.channelReset ch)

/-! ### ENABLE and DISABLE (R66, R86, R87) -/

/-- Entering EMPTY with the motor off, and going on to SPINUP with the media in (R66). -/
theorem Channel.enterEmptyOrSpinup_off (c : Channel) (ch : ChannelNo) (now : Nat) (off : c.state.motor = false) :
    c.enterEmptyOrSpinup ch now =
      if c.lines.mediaPresent then
        { c with
          state := .spinup, idleTimer := none, spinUpTimer := some (now + 4000000000)
          monitor := c.monitor.started now c.active.periodMax }
      else { c with state := .empty, idleTimer := none, spinUpTimer := none } := by
  rw [Channel.enterEmptyOrSpinup, Channel.leaveFor_eq c .empty now rfl, off]
  split
  · exact Channel.enterSpinup_off _ ch now rfl
  · rfl

/-- Settles O40: an OFFLINE channel's motor is off. -/
theorem enableActsByState : Obligations.EnableActsByState := by
  intro s ch c head enabled
  obtain rfl : c = (s.chan ch).setEnabled true := enabled
  rw [exec_channelEnable head, State.enable, State.modChan, State.setChan_dropHead]
  refine congrArg (fun d => Host.Outcome.next ((s.answered []).setChan ch d)) ?_
  generalize (s.chan ch).setEnabled true = c
  by_cases offline : c.state = .offline
  · rw [Channel.actEnable, if_pos offline, if_neg (not_not_intro offline),
      Channel.enterEmptyOrSpinup_off c ch s.now (by rw [offline]; rfl)]
  · rw [Channel.actEnable, if_neg offline, if_pos offline]

/-- DISABLE takes a channel without a diskette in work to OFFLINE (R87). -/
theorem Channel.actDisable_leaves {c : Channel} (now : Nat) (h : c.state ∈ [.empty, .spinup, .ready, .stopped]) :
    c.actDisable now =
      { c with
        state := .offline, idleTimer := none, spinUpTimer := none
        monitor := if c.state.motor then c.monitor.stopped else c.monitor } := by
  have leaves : c.actDisable now = c.leaveFor .offline now := by
    simp only [List.mem_cons, List.not_mem_nil, or_false] at h
    rcases h with st | st | st | st <;> rw [Channel.actDisable, st]
  rw [leaves, Channel.leaveFor_eq c .offline now rfl]

/-- Any other channel stays (R87). -/
theorem Channel.actDisable_stays {c : Channel} (now : Nat) (h : c.state ∉ [.empty, .spinup, .ready, .stopped]) :
    c.actDisable now = c := by
  rw [Channel.actDisable]
  split
  case h_1 st | h_2 st | h_3 st | h_4 st => exact absurd (by rw [st]; decide) h
  all_goals rfl

/-- DISABLE of a channel that has no copy in progress. -/
theorem State.disable_eq {s : State} {ch : ChannelNo} (idle : (s.chan ch).state.isCopy = false) :
    s.disable ch = s.setChan ch (((s.chan ch).setEnabled false).actDisable s.now) := by
  rw [State.disable, idle, if_neg Bool.false_ne_true, State.modChan_modChan]

/-- Settles O41: the rows of R87. -/
theorem disableActsByState : Obligations.DisableActsByState := by
  intro s ch c head disabled
  obtain rfl : c = (s.chan ch).setEnabled false := disabled
  refine ⟨fun mem => ?leaves, fun mem => ?stays, fun r copying _ =>
    ⟨(s.setChan ch ((s.chan ch).setEnabled false)).endCopy ch (.failed .channelDisabled (some .reject)), ?_,
      State.endCopy_ended _ _ _⟩⟩
  case leaves =>
    have idle : ∀ st ∈ ([.empty, .spinup, .ready, .stopped] : List ChState), st.isCopy = false := by decide
    rw [exec_channelDisable head, State.disable_eq (idle _ mem), State.setChan_dropHead,
      Channel.actDisable_leaves s.now mem]
  case stays =>
    have idle : ∀ st ∈ ([.offline, .reporting, .rejecting, .sorting, .unload, .jammed] : List ChState),
        st.isCopy = false ∧ st ∉ [.empty, .spinup, .ready, .stopped] := by decide
    rw [exec_channelDisable head, State.disable_eq (idle _ mem).1, State.setChan_dropHead,
      Channel.actDisable_stays s.now (idle _ mem).2]
  · have copies : (s.chan ch).state.isCopy = true := copying
    rw [exec_channelDisable head, State.disable, if_pos copies, State.dropHead_eq]
    rfl

/-! ### RESET (R88, R100) -/

/-- A channel without a copy that goes on at once. -/
theorem Channel.resetAfterCopy_resumes (c : Channel) (ch : ChannelNo) (now : Nat)
    (h : ¬(c.state = .reporting ∨ c.state = .rejecting)) : c.resetAfterCopy ch now = (c.wiped now).resumed now := by
  rw [Channel.resetAfterCopy, if_neg h, Channel.cleared_wiped, Channel.wiped_goOn]

/-- A channel with a tail report to place waits with reset held yes. -/
theorem Channel.resetAfterCopy_waits (c : Channel) (ch : ChannelNo) (now : Nat)
    (h : c.state = .reporting ∨ c.state = .rejecting) :
    c.resetAfterCopy ch now = { c.wiped now with resetHeld := true } := by
  rw [Channel.resetAfterCopy, if_pos h, Channel.cleared_wiped]

/-- Settles O42: step 1 of R88 by the state, then the clearing and what follows it. -/
theorem channelResetActsByState : Obligations.ChannelResetActsByState := by
  rintro s ch w head rfl
  have untouched (idle : (s.chan ch).state.isCopy = false) (other : (s.chan ch).state ≠ .reporting) :
      s.resetCopy ch = s := by
    rw [State.resetCopy, idle, if_neg Bool.false_ne_true, if_neg other]
  refine ⟨fun st => ?reporting, fun st => ?rejecting, fun mem => ?atOnce, fun copying =>
    ⟨s.endCopy ch (.failed .channelReset none), State.endCopy_ended _ _ _, ?copying⟩⟩
  case reporting =>
    have resets : s.resetCopy ch = s.modChan ch fun c => c.modCopy fun r => { r with sort := none } := by
      rw [State.resetCopy, st, if_neg (by decide), if_pos rfl]
    rw [exec_channelReset head, State.channelReset, resets, State.modChan_modChan,
      State.setChan_dropHead,
      Channel.resetAfterCopy_waits ((s.chan ch).modCopy fun r => { r with sort := none }) ch s.now (.inl st)]
    rfl
  case rejecting =>
    rw [exec_channelReset head, State.channelReset, untouched (by rw [st]; rfl) (by rw [st]; nofun), State.modChan,
      State.setChan_dropHead, Channel.resetAfterCopy_waits _ ch s.now (.inr st)]
  case atOnce =>
    have idle : ∀ st ∈ ([.offline, .empty, .spinup, .ready, .stopped, .sorting, .unload, .jammed] : List ChState),
        st.isCopy = false ∧ st ≠ .reporting ∧ st ≠ .rejecting := by decide
    obtain ⟨no_copy, no_result, no_event⟩ := idle _ mem
    rw [exec_channelReset head, State.channelReset, untouched no_copy no_result, State.modChan, State.setChan_dropHead,
      Channel.resetAfterCopy_resumes _ ch s.now (not_or.mpr ⟨no_result, no_event⟩)]
  case copying =>
    have resets : s.resetCopy ch = s.endCopy ch (.failed .channelReset none) := by rw [State.resetCopy, if_pos copying]
    have reporting : ((s.endCopy ch (.failed .channelReset none)).chan ch).state = .reporting := by
      rw [State.endCopy_chan_self]
      rfl
    rw [exec_channelReset head, State.channelReset, resets, State.modChan, State.setChan_dropHead,
      Channel.resetAfterCopy_waits _ ch s.now (.inl reporting)]

/-! ### PART-RESET (R38, R59, R89, R132, R172) -/

/-- The head frame is the first of the READY ones (R168). -/
theorem State.headFrame_eq_head (s : State) : s.headFrame = (s.link.frames.filter Frame.isReady).head? :=
  (List.head?_filter ..).symm

/-- A head frame that is held up waits, as the part sees it (R171). -/
theorem State.headWaits_of_heldUp {s : State} {f : Frame} (head : s.headFrame = some f) (h : s.HeldUp f) :
    s.headWaits f = true := by
  rw [State.headWaits, Bool.or_eq_true, decide_eq_true_iff, Frame.entriesNeeded_eq]
  refine h.imp_right fun ⟨t, k0, c, data, checked, at_cursor, full⟩ => ?_
  obtain rfl : f = ⟨.ready, 0x10, s.control.pass.tag :: t :: k0 :: c :: data⟩ :=
    Option.some.inj (head.symm.trans checked.head.1)
  have no_filling : (s.findSlot fun sl => sl.state == .filling) = none :=
    State.findSlot_eq_none_iff.mpr fun j => by rw [(full j).1]; rfl
  have no_free : (s.findSlot fun sl => sl.state == .free) = none :=
    State.findSlot_eq_none_iff.mpr fun j => by rw [(full j).1]; rfl
  have waits : s.segmentFate (s.control.pass.tag :: t :: k0 :: c :: data) = .waits := by
    rw [checked.segmentFate_eq, State.slotFate_of_not_held fun j => (full j).2, at_cursor, no_filling, no_free]
    simp
  rw [State.segmentWaits, waits]
  rfl

/-- A PART-RESET is taken at the head, or behind a head frame that waits (R172). -/
theorem exec_partReset_taken {s : State} {f : Frame} {rest : List Frame}
    (ready : s.link.frames.filter Frame.isReady = f :: rest)
    (h : f.kind = 0x5F ∨ s.HeldUp f ∧ ∃ g, rest.head? = some g ∧ g.kind = 0x5F) :
    exec .partReset s = .next s.partReset := by
  have head : s.headFrame = some f := by rw [s.headFrame_eq_head, ready]; rfl
  refine congrArg _ (if_pos ?_)
  rw [State.partResetTaken, ready]
  rcases h with first | ⟨held, g, behind, kind⟩
  · simp [first]
  · simp [State.headWaits_of_heldUp head held, behind, kind]

theorem State.boundSerials_eq (s : State) :
    s.boundSerials = channelsUp.filterMap fun ch => (s.chan ch).bound := by
  rw [State.boundSerials, toList_eq_map_channelsUp, List.filterMap_map]
  rfl

/-- A part reset of a channel, as one record (R89). -/
theorem Channel.partReset_resumed (c : Channel) (ch : ChannelNo) (now : Nat) :
    c.partReset ch now =
      Channel.resumed
        { c.wiped now with
          copy := none, held := [], cursor := none, attempt := none
          lines := { (c.wiped now).lines with writeGate := false, writeData := [] } } now := by
  rw [Channel.partReset, Channel.cleared_wiped]
  exact Channel.goOn_resumed _ ch now rfl rfl rfl

/-- Settles O44: block by block. -/
theorem partResetResetsEveryBlock : Obligations.PartResetResetsEveryBlock := by
  rintro s f rest bound ready taken rfl
  have kept : s.queueKept = if s.link.transmit = .sending then s.reports.take 1 else [] := by
    rw [State.queueKept]
    cases s.link.transmit <;> rfl
  have room : 0 < s.blocksReset.freeEntries := by
    have short : s.queueKept.length ≤ 1 := by
      rw [kept]
      split
      · rw [List.length_take]; omega
      · exact Nat.zero_le _
    exact Nat.sub_pos_of_lt (Nat.lt_of_le_of_lt short (by decide))
  have free (i : Fin 8) : s.store.cleared.slots[i].state = .free ∧ s.store.cleared.slots[i].track = none ∧
      s.store.cleared.slots[i].present = 0 ∧ s.store.cleared.slots[i].claims = 0 := by
    rw [TrackStore.cleared_slot]
    exact ⟨rfl, rfl, rfl, rfl⟩
  have chan (ch : ChannelNo) : s.blocksReset.chan ch = (s.chan ch).partReset ch s.now := by
    rw [State.blocksReset, State.chan_mapChans]
    rfl
  refine ⟨s.partReset, exec_partReset_taken ready taken, ?_⟩
  rw [State.partReset_eq, State.place_eq room]
  refine ⟨?_, ?_, rfl, rfl, rfl, fun i x => ?_, fun i => ?_, fun ch w wiped => ?_, rfl, rfl, rfl⟩
  · rw [← kept, ← s.boundSerials_eq]
    rfl
  · rw [← s.boundSerials_eq]
    rfl
  · show memRead s.store.cleared.slots[i].data x = _
    rw [TrackStore.cleared_slot]
    rfl
  · exact free i
  · subst wiped
    show s.blocksReset.chan ch = _
    rw [chan, Channel.partReset_resumed]

end Sys2Proof.Machine
end

section
/-!
The check of R9 as a division, and a report on its way out (R162, R173, R184, R187).
-/

namespace Sys2Proof.Machine

/-! ### The check (R9) -/

/-- Step 3 of R9 with the top bit written out. -/
theorem checkBit_eq (r : Check) (bit : Bool) :
    checkBit r bit = if r.getLsbD 15 = bit then r <<< 1 else (r <<< 1) ^^^ 0x1021 := by
  have top : r.msb = r.getLsbD 15 := BitVec.msb_eq_getLsbD_last r
  rw [checkBit, top]
  cases r.getLsbD 15 <;> cases bit <;> rfl

/-- Eight bits that equal the register's high byte shift it out, and nothing is combined. -/
theorem checkByte_of_high {r : Check} {b : Byte} (same : ∀ k < 8, r.getLsbD (8 + k) = b.getLsbD k) :
    checkByte r b = r <<< 8 := by
  have bits (n : Nat) (few : n ≤ 8) :
      (List.range n).foldl (fun acc k => checkBit acc (b.getLsbD (7 - k))) r = r <<< n := by
    induction n with
    | zero => simp
    | succ n ih =>
      have top : (r <<< n).getLsbD 15 = b.getLsbD (7 - n) := by
        rw [← same (7 - n) (by omega), BitVec.getLsbD_shiftLeft]
        have place : 8 + (7 - n) = 15 - n := by omega
        rw [place]
        simp only [show (15 : Nat) < 16 by omega, show ¬15 < n by omega, decide_true, decide_false, Bool.not_false,
          Bool.and_true, Bool.true_and]
      rw [List.range_succ, List.foldl_append, ih (by omega), List.foldl_cons, List.foldl_nil, checkBit_eq, if_pos top,
        BitVec.shiftLeft_add]
  exact bits 8 (Nat.le_refl 8)

theorem toNat_byte_append (high low : Byte) : (high ++ low).toNat = high.toNat * 256 + low.toNat := by
  rw [BitVec.toNat_append, ← Nat.shiftLeft_add_eq_or_of_lt low.isLt, Nat.shiftLeft_eq]

/-- A check is sent high byte first. -/
theorem checkBytes_append (high low : Byte) : checkBytes (high ++ low) = [high, low] := by
  have h := high.isLt
  have l := low.isLt
  have first : BitVec.ofNat 8 ((high ++ low).toNat / 256) = high := by
    apply BitVec.eq_of_toNat_eq
    rw [toNat_byte_append, BitVec.toNat_ofNat]
    omega
  have second : BitVec.ofNat 8 (high ++ low).toNat = low := by
    apply BitVec.eq_of_toNat_eq
    rw [toNat_byte_append, BitVec.toNat_ofNat]
    omega
  rw [checkBytes, byte2, first, second]

/-- A register's own two bytes, high byte first, leave it empty. -/
theorem checkByte_own (high low : Byte) : checkByte (checkByte (high ++ low) high) low = 0 := by
  have first : checkByte (high ++ low) high = (high ++ low) <<< 8 := checkByte_of_high fun k below => by
    rw [BitVec.getLsbD_append, if_neg (by omega), Nat.add_sub_cancel_left]
  have second : checkByte ((high ++ low) <<< 8) low = (high ++ low) <<< 8 <<< 8 := checkByte_of_high fun k below => by
    rw [BitVec.getLsbD_shiftLeft, Nat.add_sub_cancel_left, BitVec.getLsbD_append, if_pos below]
    simp only [show 8 + k < 16 by omega, show ¬8 + k < 8 by omega, decide_true, decide_false, Bool.not_false,
      Bool.and_true, Bool.true_and]
  rw [first, second, ← BitVec.shiftLeft_add]
  exact BitVec.shiftLeft_eq_zero (Nat.le_refl 16)

/-- Settles O16: one step of the division for each bit, and none of its steps combines where the check meets itself. -/
theorem checkLeavesNoRemainder : Obligations.CheckLeavesNoRemainder := by
  refine ⟨rfl, fun bytes b => ?_, fun bytes high low own => ⟨?_, ?_⟩⟩
  · rw [cyclicCheck_append, List.foldl_cons, List.foldl_nil, checkByte]
    simp only [checkBit_eq]
  · rw [← own, checkBytes_append]
  · rw [cyclicCheck_append, ← own]
    exact checkByte_own high low

/-! ### The sending of a report (R162, R173, R184, R187) -/

/-- An optional field under its presence byte, by the field's presence. -/
theorem optField_eq_elim {α : Type} (f : α → List Byte) (field : Option α) :
    optField f field = field.elim [0x00] fun a => 0x01 :: f a := by
  cases field <;> rfl

/-- The levels of one byte in its eleven bit-times. -/
theorem outLevel_byte {l : LinkPort} {i : Nat} {b : Byte} (sent : l.linkOut[i]? = some b) :
    l.outLevel (11 * i) = false ∧ (∀ k < 8, l.outLevel (11 * i + 1 + k) = b.getLsbD k) ∧
      (setCard b + if l.outLevel (11 * i + 9) then 1 else 0) % 2 = 1 ∧ l.outLevel (11 * i + 10) = true := by
  have start : l.outLevel (11 * i + 0) = false := outLevel_eq sent (by omega)
  have parity : l.outLevel (11 * i + 9) = (setCard b % 2 == 0) := outLevel_eq sent (by omega)
  have stop : l.outLevel (11 * i + 10) = true := outLevel_eq sent (by omega)
  refine ⟨start, fun k below => ?_, ?_, stop⟩
  · rw [Nat.add_assoc, outLevel_eq sent (by omega), Nat.add_comm 1 k]
    simp only [byteLevels, List.cons_append, List.getD_cons_succ]
    rw [List.getD_eq_getElem?_getD, List.getElem?_append_left (by simpa using below)]
    simp [List.getElem?_range below]
  · rw [parity]
    rcases Nat.mod_two_eq_zero_or_one (setCard b) with even | odd
    · simp only [even, BEq.rfl, if_true]
      omega
    · simp [odd]

theorem LinkPort.byteNs_eq (l : LinkPort) :
    l.byteNs =
      if l.strapB then (if l.strapA then 1375 else 2750) else if l.strapA then 5500 else 11000 := by
  rw [LinkPort.byteNs]
  cases l.strapA <;> cases l.strapB <;> rfl

/-- Settles O15: the transmitter by its state, the levels of a byte, and the formats field by field. -/
theorem reportsAreSentWhole : Obligations.ReportsAreSentWhole := by
  refine ⟨fun s r rest idle queued => ?begins, fun s hold sending => ?sending, fun s sending => ?sent,
    fun l i b sent => outLevel_byte sent, fun l k past => ?rests, LinkPort.byteNs_eq,
    fun one two three yes one_eq two_eq three_eq yes_eq => ?formats⟩
  case begins =>
    have begun (hold : Bool) : exec (.reportTransmitStart hold) s =
        .next (if hold then s.modLink fun l => { l with returnHold := hold }
          else s.modLink fun l => { l with returnHold := hold, transmit := .sending, linkOut := r.frame }) := by
      change execReportTransmitStart hold s = _
      rw [execReportTransmitStart, idle, queued]
      rfl
    exact ⟨begun false, begun true⟩
  case sending =>
    have held : exec (.reportTransmitStart hold) s = .next (s.modLink fun l => { l with returnHold := hold }) := by
      change execReportTransmitStart hold s = _
      rw [execReportTransmitStart, sending]
    exact held
  case sent =>
    change execReportSent s = _
    rw [execReportSent, sending]
  case rests =>
    rw [LinkPort.outLevel, List.getD_eq_getElem?_getD, List.getElem?_eq_none, Option.getD_none]
    rw [flatMap_byteLevels_length]
    exact past
  case formats =>
    obtain rfl : one = byte1 := funext one_eq
    obtain rfl : two = byte2 := funext two_eq
    obtain rfl : three = byte3 := funext three_eq
    obtain rfl : yes = yesNo := funext yes_eq
    simp only [← optField_eq_elim]
    refine ⟨fun kind high low body own => ?envelope, fun tag es ns => ⟨rfl, rfl⟩, fun c => ⟨rfl, rfl⟩, fun r => ⟨rfl, rfl⟩,
      fun ch event => ⟨rfl, rfl⟩, fun p => ⟨rfl, rfl⟩, fun c r settings => ⟨rfl, ?status⟩, fun reason kind => ⟨rfl, rfl⟩,
      fun table index reason accepted => ⟨rfl, rfl⟩, fun kind reason detail => ⟨rfl, rfl⟩, fun tag track reason => ⟨rfl, rfl⟩,
      fun n => ⟨rfl, rfl⟩, fun n m => ⟨rfl, rfl⟩, rfl, rfl, rfl, rfl, rfl, rfl, rfl, rfl, rfl, rfl, rfl, rfl, rfl, rfl⟩
    case envelope =>
      have check : frameCheck kind body.length body = high ++ low := own.symm
      rw [frameBytes, check, checkBytes_append]
      simp
    case status =>
      subst settings
      have drive : c.settings.driveType.code = if c.settings.driveType = .track80 then 0 else 1 := by
        cases c.settings.driveType <;> rfl
      rw [← drive]
      rfl

end Sys2Proof.Machine
end

section
/-!
The reception of frames (R162 to R169): the byte that begins one, the ends before the check, and a whole good frame.
-/

namespace Sys2Proof.Machine

/-! ### In HUNTING (R163, R168) -/

theorem State.hold_iff (s : State) : s.hold = true ↔ 2 ≤ s.link.frames.length := decide_eq_true_iff

/-- A byte that comes while the receiver hunts. -/
theorem exec_linkByteReceived_hunting {s : State} (hunting : s.link.reception = none) (b : Byte) (parity stop : Bool) :
    exec (.linkByteReceived b parity stop) s =
      .next (if b = 0xC3 ∧ byteError b parity stop = false then s.beginFrame else s.countError) := by
  have examined : s.linkByte b (byteError b parity stop) =
      if b = 0xC3 ∧ byteError b parity stop = false then s.beginFrame else s.countError := by
    rw [State.linkByte, hunting]
  exact congrArg _ examined

/-- A frame that begins takes a FREE entry (R168). -/
theorem State.beginFrame_frames (s : State) :
    s.beginFrame.link.frames =
      if s.link.frames.length < 2 then s.link.frames ++ [⟨.receiving, 0, []⟩] else s.link.frames := rfl

/-- The head frame leaves one entry FREE. -/
theorem State.length_answered {s : State} {f : Frame} (head : s.headFrame = some f) (rs : List Report) :
    (s.answered rs).link.frames.length = s.link.frames.length - 1 := by
  obtain ⟨ready, member⟩ := And.intro (List.find?_some head) (List.mem_of_find?_eq_some head)
  exact List.length_eraseP_of_mem member ready

/-- Settles O11: HOLD by the number of entries held, and a byte by the two things that R163 looks at. -/
theorem huntingExaminesEachByte : Obligations.HuntingExaminesEachByte := by
  refine ⟨fun s most => ⟨?hold, fun t hunting taken => ?begun, fun f rs head => ?left⟩, fun s b parity stop hunting => ?byte⟩
  case hold =>
    rw [s.hold_iff]
    omega
  case begun =>
    have good : (0xC3 : Byte) = 0xC3 ∧ byteError 0xC3 true true = false := by decide
    rw [exec_linkByteReceived_hunting hunting, if_pos good] at taken
    cases taken
    rw [State.hold_iff, State.beginFrame_frames]
    split
    · rw [List.length_append, List.length_singleton]
      omega
    · omega
  case left =>
    rw [← Bool.not_eq_true, State.hold_iff, State.length_answered head]
    omega
  case byte =>
    have right : byteError b parity stop = false ↔ (setCard b + if parity then 1 else 0) % 2 = 1 ∧ stop = true := by
      rw [byteError_eq, Bool.not_eq_false', decide_eq_true_iff]
    rw [exec_linkByteReceived_hunting hunting, apply_ite Host.Outcome.next]
    simp only [right]
    rfl

/-! ### The ends before the check (R164, R166, R167) -/

/-- A reception error, with the frame that a part reset left behind. -/
theorem State.endInError_cases (s : State) (r : Reception) (reason : FrameErrorReason) :
    s.endInError r reason = if r.destination = .silent then s.hunt else s.endedInError r reason := by
  by_cases silent : r.destination = .silent
  · rw [if_pos silent, State.endInError, silent]
  · rw [if_neg silent, State.endInError_eq s silent]

/-- Settles O14: the second length byte, and the gap timing. -/
theorem frameEndsBeforeItsCheck : Obligations.FrameEndsBeforeItsCheck := by
  refine ⟨fun s r b parity stop inFrame third long => ?overlength, fun s r due inFrame running => ?truncated⟩
  case overlength =>
    have ends : s.frameByte r b (byteError b parity stop) =
        s.endInError { s.counted r (byteError b parity stop) with length := r.length + b.toNat } .overlength := by
      rw [State.frameByte, if_neg (by omega), if_neg (by omega), if_pos third]
      exact if_pos long
    rw [exec_linkByteReceived_inFrame inFrame, ends, State.endInError_cases, apply_ite Host.Outcome.next]
    rfl
  case truncated =>
    have ends : exec .frameGapTimeout s = .next ((s.reach due).endInError r .truncated) := by
      change execFrameGapTimeout s = _
      rw [execFrameGapTimeout, inFrame]
      dsimp only
      rw [running]
      rfl
    rw [ends, State.endInError_cases, apply_ite Host.Outcome.next]
    rfl

/-! ### A whole good frame (R162 to R165) -/

/-- The state while a frame with an entry is received: the entry stands behind the frames held before. -/
def State.midFrame (s : State) (r : Reception) (e : Frame) : State :=
  { s with link := { s.link with reception := some r, frames := s.link.frames ++ [e] } }

/-- A reception without a byte error, of a frame with an entry. -/
def State.hearing (s : State) (count length : Nat) (kind : Option Byte) (checkHigh : Byte) : Reception :=
  { destination := .entry, count := count, kind := kind, length := length, checkHigh := checkHigh, byteError := false
    gapTimer := s.gapDue }

/-- A check is its two bytes. -/
theorem check_halves (c : Check) : ∃ high low : Byte, c = high ++ low := by
  refine ⟨BitVec.ofNat 8 (c.toNat / 256), BitVec.ofNat 8 c.toNat, BitVec.eq_of_toNat_eq ?_⟩
  have := c.isLt
  rw [toNat_byte_append, BitVec.toNat_ofNat, BitVec.toNat_ofNat]
  omega

/-- A byte sent with its parity bit and its stop bit has no byte error (R162). -/
theorem byteError_sent (b : Byte) : byteError b (setCard b % 2 == 0) true = false := by
  rw [byteError, flagBit]
  rcases Nat.mod_two_eq_zero_or_one (setCard b) with even | odd
  · simp only [even, BEq.rfl, if_true]
    simp
    omega
  · simp [odd]

/-- A run over arriving bytes takes them one after another. -/
theorem State.run_arriving (bs : List Byte) (s : State) :
    s.run (arriving bs) = bs.foldl (fun t b => t.linkByte b false) s := by
  induction bs generalizing s with
  | nil => rfl
  | cons b bs ih =>
    have first : exec (.linkByteReceived b (setCard b % 2 == 0) true) s = .next (s.linkByte b false) := by
      change execLinkByteReceived _ _ _ s = _
      rw [execLinkByteReceived, byteError_sent]
    have rest : s.run (arriving (b :: bs)) = (s.linkByte b false).run (arriving bs) := by
      rw [arriving, List.map_cons, State.run, first]
      rfl
    rw [rest, ih, List.foldl_cons]

section
variable {s : State} (ready : ∀ f ∈ s.link.frames, f.state = .ready)
include ready

/-- The RECEIVING entry changes, and the frames before it stay. -/
theorem State.midFrame_taken {r : Reception} {e : Frame} (receiving : e.state = .receiving) (q : Reception)
    (f : Frame → Frame) : (s.midFrame r e).takenInto .entry q f = s.midFrame q (f e) := by
  have before : s.link.frames.map (fun e => if e.state = .receiving then f e else e) = s.link.frames := by
    conv => rhs; rw [← List.map_id s.link.frames]
    exact List.map_congr_left fun e held => by rw [ready e held]; rfl
  simp only [State.takenInto, State.midFrame, if_true, List.map_append, before, List.map_cons, List.map_nil,
    receiving]

/-- The body of the RECEIVING entry. -/
theorem State.midFrame_body {r : Reception} {e : Frame} (receiving : e.state = .receiving) :
    (s.midFrame r e).receivingBody = e.body := by
  have before : s.link.frames.find? (fun e => e.state == .receiving) = none :=
    List.find?_eq_none.mpr fun e held => by rw [ready e held]; decide
  simp only [State.receivingBody, State.midFrame, List.find?_append, before, Option.none_or]
  rw [List.find?_cons_of_pos (by rw [receiving]; rfl)]
  rfl

omit ready in
theorem State.begins_frame (hunting : s.link.reception = none) (room : s.link.frames.length < 2) :
    s.linkByte 0xC3 false = s.midFrame (s.hearing 0 0 none 0) ⟨.receiving, 0, []⟩ := by
  have good : (0xC3 : Byte) = Config.startCode ∧ false = false := by decide
  rw [State.linkByte, hunting]
  dsimp only
  rw [if_pos good, State.beginFrame]
  simp only [Config.frameEntries, room, if_true]
  rfl

omit ready in
theorem State.midFrame_linkByte (r : Reception) (e : Frame) (b : Byte) :
    (s.midFrame r e).linkByte b false = (s.midFrame r e).frameByte r b false := rfl

theorem State.midFrame_kind (kind : Byte) :
    (s.midFrame (s.hearing 0 0 none 0) ⟨.receiving, 0, []⟩).linkByte kind false =
      s.midFrame (s.hearing 1 0 (some kind) 0) ⟨.receiving, kind, []⟩ := by
  rw [State.midFrame_linkByte, State.frameByte_kind _ kind false rfl]
  exact State.midFrame_taken ready rfl _ _

omit ready in
theorem State.midFrame_length {n : Nat} (fits : n ≤ 4112) (kind : Byte) (e : Frame) :
    ((s.midFrame (s.hearing 1 0 (some kind) 0) e).linkByte (BitVec.ofNat 8 (n / 256)) false).linkByte
        (BitVec.ofNat 8 n) false =
      s.midFrame (s.hearing 3 n (some kind) 0) e := by
  have whole : 256 * (BitVec.ofNat 8 (n / 256)).toNat + (BitVec.ofNat 8 n).toNat = n := by
    rw [Nat.mul_comm]
    exact toNat_bytes_of_le (by omega)
  have high : (s.midFrame (s.hearing 1 0 (some kind) 0) e).linkByte (BitVec.ofNat 8 (n / 256)) false =
      s.midFrame (s.hearing 2 (256 * (BitVec.ofNat 8 (n / 256)).toNat) (some kind) 0) e := by
    rw [State.midFrame_linkByte, State.frameByte_lengthHigh _ _ false rfl]
    rfl
  have low : (s.midFrame (s.hearing 2 (256 * (BitVec.ofNat 8 (n / 256)).toNat) (some kind) 0) e).linkByte
        (BitVec.ofNat 8 n) false =
      s.midFrame (s.hearing 3 (256 * (BitVec.ofNat 8 (n / 256)).toNat + (BitVec.ofNat 8 n).toNat) (some kind) 0) e := by
    rw [State.midFrame_linkByte, State.frameByte_lengthLow _ _ false rfl (Nat.le_trans (Nat.le_of_eq whole) fits)]
    rfl
  rw [high, low, whole]

/-- The bytes of the body go into the entry, one after another. -/
theorem State.midFrame_bytes (kind : Byte) (bs : List Byte) {n k : Nat} {e : Frame} (receiving : e.state = .receiving)
    (room : k + bs.length ≤ n) :
    bs.foldl (fun t b => t.linkByte b false) (s.midFrame (s.hearing (3 + k) n (some kind) 0) e) =
      s.midFrame (s.hearing (3 + k + bs.length) n (some kind) 0) { e with body := e.body ++ bs } := by
  induction bs generalizing k e with
  | nil => simp
  | cons b bs ih =>
    rw [List.length_cons] at room
    have first : (s.midFrame (s.hearing (3 + k) n (some kind) 0) e).linkByte b false =
        s.midFrame (s.hearing (3 + (k + 1)) n (some kind) 0) { e with body := e.body ++ [b] } := by
      have inside : (s.hearing (3 + k) n (some kind) 0).count < (s.hearing (3 + k) n (some kind) 0).length + 3 := by
        show 3 + k < n + 3
        omega
      rw [State.midFrame_linkByte, State.frameByte_body _ b false (Nat.le_add_right 3 k) inside]
      exact State.midFrame_taken ready receiving _ _
    have places : 3 + (k + 1) + bs.length = 3 + k + (b :: bs).length := by rw [List.length_cons]; omega
    have rest := ih (k := k + 1) (e := { e with body := e.body ++ [b] }) receiving (by omega)
    rw [List.foldl_cons, first, rest, places, List.append_assoc, List.singleton_append]

/-- The check bytes: the frame is judged, and becomes READY (R165). -/
theorem State.midFrame_check {kind : Byte} {body : List Byte} (inbound : kind ∈ inboundKinds) {high low : Byte}
    (check : frameCheck kind body.length body = high ++ low) :
    ((s.midFrame (s.hearing (3 + body.length) body.length (some kind) 0) ⟨.receiving, kind, body⟩).linkByte high
        false).linkByte low false =
      { s with link := { s.link with reception := none, frames := s.link.frames ++ [⟨.ready, kind, body⟩] } } := by
  have first : (s.midFrame (s.hearing (3 + body.length) body.length (some kind) 0)
        ⟨.receiving, kind, body⟩).linkByte high false =
      s.midFrame (s.hearing (4 + body.length) body.length (some kind) high) ⟨.receiving, kind, body⟩ := by
    have counts : 4 + body.length = 3 + body.length + 1 := by omega
    rw [State.midFrame_linkByte, State.frameByte_checkHigh _ high false (Nat.add_comm 3 _), counts]
    rfl
  rw [first]
  generalize hr : s.hearing (4 + body.length) body.length (some kind) high = r
  have fields : r.destination = .entry ∧ r.kind = some kind ∧ r.length = body.length ∧ r.checkHigh = high ∧
      r.byteError = false ∧ r.count = 4 + body.length := by subst hr; exact ⟨rfl, rfl, rfl, rfl, rfl, rfl⟩
  obtain ⟨entry, known, length, checkHigh, right, count⟩ := fields
  have judged : (s.midFrame r ⟨.receiving, kind, body⟩).linkByte low false =
      (s.midFrame r ⟨.receiving, kind, body⟩).judgeFrame ((s.midFrame r ⟨.receiving, kind, body⟩).counted r false)
        (high ++ low) := by
    rw [State.midFrame_linkByte, ← checkHigh]
    exact State.frameByte_checkLow _ low false (by omega)
  have body_ : frameCheck kind body.length (s.midFrame r ⟨.receiving, kind, body⟩).receivingBody = high ++ low := by
    rw [State.midFrame_body ready rfl, check]
  rw [judged, State.judgeFrame_entry _ _ (r := (s.midFrame r ⟨.receiving, kind, body⟩).counted r false) entry known]
  have no_error : ¬((s.midFrame r ⟨.receiving, kind, body⟩).counted r false).byteError = true := by
    show ¬(r.byteError || false) = true
    rw [right]
    decide
  have length_ : ((s.midFrame r ⟨.receiving, kind, body⟩).counted r false).length = body.length := length
  rw [if_neg no_error, length_, if_neg (not_not_intro body_), if_neg (not_not_intro inbound)]
  have taken := State.midFrame_taken ready (s := s) (r := r) (e := ⟨.receiving, kind, body⟩) rfl r
    fun e => { e with state := .ready }
  rw [State.takenInto_eq_ite, if_pos rfl] at taken
  have frames := congrArg (fun t : State => t.hunt) taken
  exact frames

end

/-- Settles O12: byte by byte, along the frame's parts. -/
theorem goodFrameBecomesReady : Obligations.GoodFrameBecomesReady := by
  intro s kind body hunting room ready inbound fits
  obtain ⟨high, low, check⟩ : ∃ high low : Byte, frameCheck kind body.length body = high ++ low :=
    check_halves _
  have sent : frameBytes kind body =
      0xC3 :: kind :: BitVec.ofNat 8 (body.length / 256) :: BitVec.ofNat 8 body.length :: (body ++ [high, low]) := by
    rw [frameBytes, check, checkBytes_append]
    simp [byte2]
  rw [State.run_arriving, sent]
  simp only [List.foldl_cons]
  rw [State.begins_frame hunting room, State.midFrame_kind ready, State.midFrame_length fits,
    List.foldl_append, State.midFrame_bytes ready kind body rfl (k := 0) (Nat.le_of_eq (Nat.zero_add _))]
  simp only [List.foldl_cons, List.foldl_nil]
  have whole := State.midFrame_check ready inbound check
  rw [← hunting] at whole
  exact whole

end Sys2Proof.Machine
end

section
/-!
The events of a drive channel (chapter 4): the media-present line, the held reports, recalibration and seeking, and the
channel's timers.
-/

namespace Sys2Proof.Machine

/-! ### Held reports (R80 to R82, R88) -/

/-- The COPY-RESULT of a copy in REPORTING has been placed, the motor being on (R81, R88). -/
theorem Channel.afterResult_eq (c : Channel) (ch : ChannelNo) (sort : Option Strobe) (now : Nat)
    (on : c.state.motor = true) :
    c.afterResult ch sort now =
      if c.resetHeld then c.released ch now
      else
        match sort with
        | some sort => if c.lines.mediaPresent then c.sorted sort now else c.rearmed now
        | none => c.rearmed now := by
  unfold Channel.afterResult
  rw [Channel.goOn_released c ch now on, Channel.rearm_rearmed]
  cases sort with
  | none => rfl
  | some sort =>
    dsimp only
    rw [Channel.enterSorting_sorted c sort now on]

/-- The event of REJECTING has been placed, the motor being on (R82, R88). -/
theorem Channel.afterEvent_eq (c : Channel) (ch : ChannelNo) (now : Nat) (on : c.state.motor = true) :
    c.afterEvent ch now =
      if c.resetHeld then c.released ch now
      else if c.lines.mediaPresent then c.sorted .reject now else c.rearmed now := by
  rw [Channel.afterEvent, Channel.goOn_released c ch now on, Channel.rearm_rearmed,
    Channel.enterSorting_sorted c .reject now on]

/-- The oldest held report goes to the queue, and then moves the channel on. -/
theorem exec_heldReportPlaced {s : State} {ch : ChannelNo} {r : Report} {rest : List Report}
    (held : (s.chan ch).held = r :: rest) (room : s.reports.length < 32) (protect : Bool) :
    exec (.heldReportPlaced ch protect) s =
      .next ((State.setChan { s with reports := s.reports ++ [r] } ch
        { s.chan ch with held := rest, lines := { (s.chan ch).lines with writeProtect := protect } }).afterPlaced ch r) := by
  have free : 0 < s.freeEntries := Nat.sub_pos_of_lt room
  change execHeldReportPlaced ch protect s = _
  rw [execHeldReportPlaced, held]
  dsimp only
  rw [if_pos free, State.place_eq (s := s.seeProtect ch protect) free]
  have handed : (({ s.seeProtect ch protect with reports := s.reports ++ [r] } : State).modChan ch
        fun c => { c with held := rest }) =
      State.setChan { s with reports := s.reports ++ [r] } ch
        { s.chan ch with held := rest, lines := { (s.chan ch).lines with writeProtect := protect } } := by
    have seen : ({ s.seeProtect ch protect with reports := s.reports ++ [r] } : State) =
        State.modChan { s with reports := s.reports ++ [r] } ch
          fun c => c.modLines fun l => { l with writeProtect := protect } := rfl
    rw [seen, State.modChan_modChan]
    rfl
  exact congrArg (fun t => Host.Outcome.next (State.afterPlaced t ch r)) handed

theorem State.afterPlaced_result {s : State} {ch : ChannelNo} (st : (s.chan ch).state = .reporting) (q : CopyResult) :
    s.afterPlaced ch (.copyResult q) =
      (s.leaveEnrolled ch).modChan ch fun c =>
        ({ c with copy := none } : Channel).afterResult ch (c.copy.bind (·.sort)) s.now := by
  unfold State.afterPlaced
  rw [st]

theorem State.afterPlaced_tail {s : State} {ch : ChannelNo} {event : ChannelEvent} (st : (s.chan ch).state = .rejecting)
    (tail : event = .writeProtected ∨ event = .spinFault) :
    s.afterPlaced ch (.channelEvent ch event) = s.modChan ch fun c => c.afterEvent ch s.now := by
  unfold State.afterPlaced
  rw [st]
  rcases tail with rfl | rfl <;> rfl

theorem State.afterPlaced_event (s : State) (ch : ChannelNo) {event : ChannelEvent}
    (only : event = .jammed ∨ event = .spindleStopped) : s.afterPlaced ch (.channelEvent ch event) = s := by
  rcases only with rfl | rfl <;> rfl

/-- Settles O46: by the report that is placed. -/
theorem heldReportMovesTheChannelOn : Obligations.HeldReportMovesTheChannelOn := by
  intro s ch protect
  refine ⟨fun waits => ?waits, fun r rest c d held room c_eq d_eq => ⟨fun event => ?event, fun q result st => ?result,
    fun tail st => ?tail⟩⟩
  case waits =>
    change execHeldReportPlaced ch protect s = _
    rw [execHeldReportPlaced]
    rcases waits with none | full
    · rw [none]
    · have no_room : ¬0 < s.freeEntries := Nat.not_lt.mpr (Nat.le_of_eq (Nat.sub_eq_zero_of_le full))
      split
      · rfl
      · rw [if_neg no_room]
  all_goals rw [exec_heldReportPlaced held room, ← c_eq]
  case event =>
    obtain ⟨ev, rfl, only⟩ : ∃ ev, r = .channelEvent ch ev ∧ (ev = .jammed ∨ ev = .spindleStopped) :=
      event.elim (fun e => ⟨_, e, .inl rfl⟩) fun e => ⟨_, e, .inr rfl⟩
    rw [State.afterPlaced_event _ ch only]
  case result =>
    subst result d_eq
    have on : ({ c with copy := none } : Channel).state.motor = true := by
      show c.state.motor = true
      rw [st]
      rfl
    have left : (State.setChan { s with reports := s.reports ++ [.copyResult q] } ch c).leaveEnrolled ch =
        State.setChan
          { s with
            reports := s.reports ++ [.copyResult q]
            control :=
              { s.control with
                pass := { s.control.pass with enrolled := setDrop s.control.pass.enrolled ch } } } ch c := rfl
    rw [State.afterPlaced_result (by rw [State.chan_setChan_self, st]), left, State.modChan, State.chan_setChan_self,
      State.setChan_setChan, Channel.afterResult_eq _ _ _ _ on]
    rfl
  case tail =>
    have on : c.state.motor = true := by rw [st]; rfl
    obtain ⟨ev, rfl, only⟩ : ∃ ev, r = .channelEvent ch ev ∧ (ev = .writeProtected ∨ ev = .spinFault) :=
      tail.elim (fun e => ⟨_, e, .inl rfl⟩) fun e => ⟨_, e, .inr rfl⟩
    rw [State.afterPlaced_tail (by rw [State.chan_setChan_self, st]) only, State.modChan, State.chan_setChan_self,
      State.setChan_setChan, Channel.afterEvent_eq c ch _ on]
    rfl

/-! ### The media-present line (R66, R79) -/

/-- Settles O47: the rows of R79. -/
theorem mediaLineActsByState : Obligations.MediaLineActsByState := by
  refine ⟨fun s ch c c_eq => ?present, fun s ch c c_eq => ?absent⟩
  case present =>
    have seen : s.seeMedia ch true = s.setChan ch c := by rw [c_eq]; rfl
    have state : (s.chan ch).state = c.state := by rw [c_eq]
    change execMediaPresent ch s = _
    rw [execMediaPresent, seen, state]
    refine congrArg _ ?_
    by_cases empty : c.state = .empty
    · have off : c.state.motor = false := by rw [empty]; rfl
      rw [if_pos empty, if_pos empty, State.modChan, State.chan_setChan_self, State.setChan_setChan,
        Channel.enterSpinup_off c ch s.now off]
    · rw [if_neg empty, if_neg empty]
  case absent =>
    have seen : s.seeMedia ch false = s.setChan ch c := by rw [c_eq]; rfl
    have state : (s.chan ch).state = c.state := by rw [c_eq]
    have strobing : (s.chan ch).strobing = c.strobing := by rw [c_eq]; rfl
    have acts : exec (.mediaAbsent ch) s = execMediaAbsent ch s := rfl
    rw [acts, execMediaAbsent, seen, state, strobing]
    have rearms : ((s.setChan ch c).modChan ch fun c => c.rearm ch s.now) = s.setChan ch (c.rearmed s.now) := by
      rw [State.modChan, State.chan_setChan_self, State.setChan_setChan, Channel.rearm_rearmed]
    refine ⟨fun mem => ?stays, fun mem => ?empties, fun copying => ⟨_, ?copying, State.endCopy_ended _ _ _⟩,
      fun st strobe => ?noted, fun st accept reject => ?delay, fun st => ?unload⟩
    case stays =>
      simp only [List.mem_cons, List.not_mem_nil, or_false] at mem
      rcases mem with st | st | st | st <;> rw [st]
    case empties =>
      have leaves : ((s.setChan ch c).modChan ch fun c => c.leaveFor .empty s.now) =
          s.setChan ch
            { c with
              state := .empty, spinUpTimer := none, idleTimer := none
              monitor := if c.state.motor then c.monitor.stopped else c.monitor } := by
        rw [State.modChan, State.chan_setChan_self, State.setChan_setChan, Channel.leaveFor_eq c .empty s.now rfl]
      rw [← leaves]
      simp only [List.mem_cons, List.not_mem_nil, or_false] at mem
      rcases mem with st | st | st <;> rw [st]
    case copying => cases st : c.state <;> rw [st] at copying <;> cases copying
    case noted =>
      have strobes : c.strobing = true := Bool.or_eq_true_iff.mpr strobe
      have notes : ((s.setChan ch c).modChan ch fun c => { c with removalNoted := true }) =
          s.setChan ch { c with removalNoted := true } := by
        rw [State.modChan, State.chan_setChan_self, State.setChan_setChan]
      rw [← notes, st]
      exact congrArg _ (if_pos strobes)
    case delay =>
      have still : ¬c.strobing = true := by rw [Channel.strobing, accept, reject]; decide
      rw [st]
      dsimp only
      rw [if_neg still, rearms]
    case unload => rcases st with st | st <;> (rw [st]; exact congrArg _ rearms)

/-! ### Timers (R67, R68, R76, R83, R84) -/

/-- The clock stands at the expiry of a running timer at least. -/
theorem State.reachTimer_of {timer : Timer} {due : Nat} (running : timer = some due) (s : State) :
    s.reachTimer timer = { s with now := max s.now due } := by
  rw [running]
  rfl

theorem State.now_reachTimer {timer : Timer} {due : Nat} (running : timer = some due) (s : State) :
    (s.reachTimer timer).now = max s.now due := by
  rw [State.reachTimer_of running]

/-- A channel changes at the expiry of a running timer. -/
theorem State.modChan_reachTimer {timer : Timer} {due : Nat} (running : timer = some due) (s : State) (ch : ChannelNo)
    (f : Channel → Channel) :
    (s.reachTimer timer).modChan ch f = State.setChan { s with now := max s.now due } ch (f (s.chan ch)) := by
  rw [State.reachTimer_of running]
  rfl

theorem isSome_of_running {timer : Timer} {due : Nat} (running : timer = some due) : timer.isSome = true := by
  rw [running]
  rfl

/-- JAMMED and SPINDLE-STOPPED are held once, as one record (R80). -/
theorem Channel.holdOnce_eq (c : Channel) (r : Report) :
    c.holdOnce r = { c with held := if r ∈ c.held then c.held else c.held ++ [r] } := by
  rw [Channel.holdOnce]
  split <;> rfl

section
variable (c : Channel) (ch : ChannelNo) (now : Nat)

theorem Channel.enterRejecting_eq (event : ChannelEvent) (on : c.state.motor = true) :
    c.enterRejecting ch event now =
      { c with state := .rejecting, spinUpTimer := none, held := c.held ++ [.channelEvent ch event] } := by
  rw [Channel.enterRejecting, Channel.enter_of_motor c .rejecting now on]
  rfl

theorem Channel.spindleStopped_eq (on : c.state.motor = true) :
    (c.leaveFor .stopped now).holdOnce (.channelEvent ch .spindleStopped) =
      { c with
        state := .stopped, spinUpTimer := none, idleTimer := none, monitor := c.monitor.stopped
        held :=
          if .channelEvent ch .spindleStopped ∈ c.held then c.held else c.held ++ [.channelEvent ch .spindleStopped] } := by
  rw [Channel.holdOnce_eq, Channel.leaveFor_eq c .stopped now rfl, if_pos on]

theorem Channel.startStrobe_eq :
    c.startStrobe now =
      { c with
        sortTimer := some (now + c.active.sortWidth * 1000000)
        lines :=
          { c.lines with
            accept := decide (c.strobeSort = some .accept), reject := decide (c.strobeSort = some .reject) } } := by
  have sorts (sort : Strobe) : (c.strobeSort == some sort) = decide (c.strobeSort = some sort) := by
    cases c.strobeSort with
    | none => rfl
    | some held => cases held <;> cases sort <;> rfl
  rw [Channel.startStrobe, sorts, sorts]

theorem Channel.endStrobe_eq (off : c.state.motor = false) :
    c.endStrobe ch now =
      if c.removalNoted then c.rearmed now
      else
        { c with
          state := .unload, sortTimer := none, strobeSort := none
          ejectTimer := some (now + c.active.ejectTimeout * 1000000000)
          lines := { c.lines with accept := false, reject := false } } := by
  rw [Channel.endStrobe, Channel.rearm_rearmed, Channel.enter_of_motor c .unload now off]

theorem Channel.jammed_eq (off : c.state.motor = false) :
    ({ c.enter .jammed now with ejectTimer := none } : Channel).holdOnce (.channelEvent ch .jammed) =
      { c with
        state := .jammed, ejectTimer := none
        held := if .channelEvent ch .jammed ∈ c.held then c.held else c.held ++ [.channelEvent ch .jammed] } := by
  rw [Channel.holdOnce_eq, Channel.enter_of_motor c .jammed now off]

end

/-- Settles O52: timer by timer. -/
theorem channelTimersExpire : Obligations.ChannelTimersExpire := by
  rintro s u ch c due rfl rfl
  refine ⟨fun st running => ?spin, fun st running => ?idle, fun copying running =>
    ⟨({ s with now := max s.now due } : State).endCopy ch (.failed .speedFault (some .reject)), ?recovery,
      State.endCopy_ended _ _ _⟩,
    fun st running accept reject => ?sort, fun st running strobe => ?strobe, fun st running => ?eject⟩
  case spin =>
    have on : (s.chan ch).state.motor = true := by rw [st]; rfl
    change execSpinUpTimeout ch s = _
    refine congrArg _ ((if_pos ⟨st, isSome_of_running running⟩).trans ?_)
    dsimp only
    rw [State.now_reachTimer running, State.modChan_reachTimer running, Channel.enterRejecting_eq _ _ _ _ on]
  case idle =>
    have on : (s.chan ch).state.motor = true := by rw [st]; rfl
    change execIdleTimeout ch s = _
    refine congrArg _ ((if_pos ⟨st, isSome_of_running running⟩).trans ?_)
    dsimp only
    rw [State.now_reachTimer running, State.modChan_reachTimer running, Channel.spindleStopped_eq _ _ _ on]
  case recovery =>
    change execRecoveryTimeout ch s = _
    refine congrArg _ ((if_pos ⟨copying, isSome_of_running running⟩).trans ?_)
    rw [State.reachTimer_of running]
  case sort =>
    have still : (s.chan ch).strobing = false := by rw [Channel.strobing, accept, reject]; rfl
    change execSortDelayEnd ch s = _
    refine congrArg _ ((if_pos ⟨st, isSome_of_running running, still⟩).trans ?_)
    dsimp only
    rw [State.now_reachTimer running, State.modChan_reachTimer running, Channel.startStrobe_eq]
  case strobe =>
    have strobes : (s.chan ch).strobing = true := Bool.or_eq_true_iff.mpr strobe
    have off : (s.chan ch).state.motor = false := by rw [st]; rfl
    change execStrobeEnd ch s = _
    refine congrArg _ ((if_pos ⟨st, strobes⟩).trans ?_)
    dsimp only
    rw [State.now_reachTimer running, State.modChan_reachTimer running, Channel.endStrobe_eq _ _ _ off]
  case eject =>
    have off : (s.chan ch).state.motor = false := by rw [st]; rfl
    change execEjectTimeout ch s = _
    refine congrArg _ ((if_pos ⟨st, isSome_of_running running⟩).trans ?_)
    dsimp only
    rw [State.now_reachTimer running, State.modChan_reachTimer running, Channel.jammed_eq _ _ _ off]

end Sys2Proof.Machine
end

section
/-!
What the INDEX line's edges and timeouts, the steps and the settle come to.
-/

namespace Sys2Proof.Machine

/-! ### The Index Monitor is measured whatever the channel then does -/

/-- The clock and a channel's Index Monitor stand as before. -/
def SameMeter (ch : ChannelNo) (s t : State) : Prop := t.now = s.now ∧ (t.chan ch).monitor = (s.chan ch).monitor

namespace SameMeter

variable {s t u : State} {ch : ChannelNo}

theorem refl (ch : ChannelNo) (s : State) : SameMeter ch s s := ⟨rfl, rfl⟩

theorem trans (h : SameMeter ch s t) (g : SameMeter ch t u) : SameMeter ch s u := ⟨g.1.trans h.1, g.2.trans h.2⟩

theorem setChan (s : State) {c : Channel} (monitor : c.monitor = (s.chan ch).monitor) : SameMeter ch s (s.setChan ch c) :=
  ⟨rfl, by rw [State.chan_setChan_self, monitor]⟩

theorem endCopy (on : (s.chan ch).state.motor = true) (e : CopyEnd) : SameMeter ch s (s.endCopy ch e) := by
  refine ⟨s.endCopy_now ch e, ?_⟩
  have kept : (((s.chan ch).dropAttempt).enter .reporting s.now).monitor = (s.chan ch).monitor :=
    Channel.enter_monitor (c := (s.chan ch).dropAttempt) (st := .reporting) on s.now
  rw [State.endCopy_chan_self, ← kept]
  rfl

theorem attemptFailed (on : (s.chan ch).state.motor = true) (kind : FailKind) (detail : Option VerifyDetail) :
    SameMeter ch s (s.attemptFailed ch kind detail) := by
  have lost : SameMeter ch s (s.setChan ch ((s.chan ch).lost detail)) := setChan s rfl
  unfold State.attemptFailed
  simp only [State.modChan_eq, Channel.attemptLost_eq _ _ _ on]
  split
  · exact lost.trans (endCopy (by rw [State.chan_setChan_self]; rfl) _)
  · exact lost

theorem nextTrack (on : (s.chan ch).state.motor = true) (track : Nat) : SameMeter ch s (s.nextTrack ch track) := by
  rw [State.nextTrack_eq, Channel.enterSeeking_begun { s.chan ch with cursor := some track, attempts := 0 } _ _ _ on]
  exact setChan s rfl

theorem finishTrack (on : (s.chan ch).state.motor = true) (a : Attempt) : SameMeter ch s (s.finishTrack ch a) := by
  have done : SameMeter ch s (s.trackDone ch a) := ⟨rfl, by simp [State.trackDone]⟩
  have still : ((s.trackDone ch a).chan ch).state.motor = true := by simpa [State.trackDone] using on
  rw [State.finishTrack_eq]
  split
  · exact done.trans (endCopy still _)
  · exact done.trans (nextTrack still _)

theorem writeStart (on : (s.chan ch).state.motor = true) (a : Attempt) : SameMeter ch s (s.writeStart ch a) := by
  unfold State.writeStart
  split
  · exact attemptFailed on _ _
  · exact setChan s rfl

theorem beginAttempt (on : (s.chan ch).state.motor = true) (edge : Nat) : SameMeter ch s (s.beginAttempt ch edge) := by
  unfold State.beginAttempt
  dsimp only
  split
  · exact refl ch s
  · split
    · exact attemptFailed on _ _
    · unfold State.beginWrite
      have begun : ∀ (a : Attempt) (f : CopyRecord → CopyRecord), SameMeter ch s (s.modChan ch fun c =>
          (({ c with attempt := some a } : Channel).modCopy f).enter .writing s.now) := fun a f =>
        setChan s (Channel.enter_monitor (c := ({ s.chan ch with attempt := some a } : Channel).modCopy f) (st := .writing) on _)
      dsimp only
      split
      · exact (begun _ _).trans (writeStart (by rw [State.chan_modChan_self]; rfl) _)
      · exact begun _ _

theorem endWrite (on : (s.chan ch).state.motor = true) (a : Attempt) (stable : Bool) (edge : Nat) :
    SameMeter ch s (s.endWrite ch a stable edge) := by
  unfold State.endWrite
  have off : SameMeter ch s (s.modChan ch fun c => c.modLines fun l => { l with writeGate := false, writeData := [] }) :=
    setChan s rfl
  have still : ((s.modChan ch fun c => c.modLines fun l => { l with writeGate := false, writeData := [] }).chan
      ch).state.motor = true := by rw [State.chan_modChan_self]; exact on
  dsimp only
  split
  · exact off.trans (attemptFailed still _ _)
  split
  · exact off.trans (attemptFailed still _ _)
  split
  · exact off.trans (finishTrack still _)
  · exact off.trans (setChan _ (Channel.enter_monitor still _))

theorem endVerify (on : (s.chan ch).state.motor = true) (a : Attempt) (stable : Bool) :
    SameMeter ch s (s.endVerify ch a stable) := by
  unfold State.endVerify
  split
  · exact attemptFailed on _ _
  split
  · exact finishTrack on _
  · exact attemptFailed on _ _

end SameMeter

theorem Channel.recover_fields (c : Channel) (before after : Monitor) (now : Nat) :
    (c.recover before after now).monitor = c.monitor ∧ (c.recover before after now).state = c.state := by
  unfold Channel.recover
  split
  · exact ⟨rfl, rfl⟩
  · split <;> exact ⟨rfl, rfl⟩

theorem Channel.stableInSpinup_monitor {c : Channel} (on : c.state.motor = true) (ch : ChannelNo) (now : Nat) :
    (c.stableInSpinup ch now).monitor = c.monitor := by
  unfold Channel.stableInSpinup
  split
  · rw [Channel.enterRejecting_eq c ch now _ on]
  · exact Channel.enter_monitor (c := { c with spinUpTimer := none }) (st := .ready) on now

theorem Channel.enterSpinup_monitor {c : Channel} (on : c.state.motor = true) (ch : ChannelNo) (now : Nat) :
    (c.enterSpinup ch now).monitor = c.monitor := by
  rw [Channel.enterSpinup_on c ch now on]
  split
  · split <;> rfl
  · rfl

/-- The channel's answer to an edge leaves the measured monitor alone: the motor of a channel that answers is on. -/
theorem State.edgeToChannel_sameMeter (s : State) (ch : ChannelNo) (before : Monitor) (t : Nat) :
    SameMeter ch s (s.edgeToChannel ch before t) := by
  unfold State.edgeToChannel
  dsimp only
  generalize hr : (s.modChan ch fun c => c.recover before (s.chan ch).monitor s.now) = r
  have recovered : SameMeter ch s r := by rw [← hr]; exact SameMeter.setChan s (Channel.recover_fields _ _ _ _).1
  have state : (r.chan ch).state = (s.chan ch).state := by
    rw [← hr, State.chan_modChan_self]; exact (Channel.recover_fields _ _ _ _).2
  split
  case h_1 st =>
    split
    · exact SameMeter.setChan s (Channel.stableInSpinup_monitor (by rw [st]; rfl) _ _)
    · exact SameMeter.refl ch s
  case h_2 st =>
    split
    · exact SameMeter.setChan s (Channel.enterSpinup_monitor (by rw [st]; rfl) _ _)
    · exact SameMeter.refl ch s
  case h_3 | h_4 | h_5 => exact recovered
  case h_6 st =>
    split
    · exact recovered.trans (SameMeter.beginAttempt (by rw [state, st]; rfl) t)
    · exact recovered
  case h_7 st =>
    split
    · exact recovered.trans (SameMeter.endWrite (by rw [state, st]; rfl) _ _ _)
    · exact recovered
  case h_8 st =>
    split
    · exact recovered.trans (SameMeter.endVerify (by rw [state, st]; rfl) _ _)
    · exact recovered
  all_goals exact SameMeter.refl ch s

/-- The end of a pulse on a monitor that may not run (R93). -/
theorem Monitor.trailingEdge_eq (m : Monitor) (set : Settings) (t : Nat) :
    (if m.running then m.trailingEdge set t else m) =
      match m.running, m.pulseStart with
      | true, some e =>
        { m with
          pulseStart := none
          lastWidth := some (min 1048575 ((t - e) / 1000))
          pulseShort := m.pulseShort || decide (min 1048575 ((t - e) / 1000) < set.pulseMin)
          pulseLong := m.pulseLong || decide (set.pulseMax < min 1048575 ((t - e) / 1000)) }
      | _, _ => m := by
  unfold Monitor.trailingEdge
  cases m.running with
  | false => rfl
  | true => cases m.pulseStart <;> rfl

/-- Settles O48: the monitor of a channel is what its edge made it (`edgeToChannel_sameMeter`), with a period behind it if a
last edge was known. -/
theorem edgesAreMeasured : Obligations.EdgesAreMeasured := by
  refine ⟨?leading, ?idle, ?trailing⟩
  case leading =>
    rintro s ch t protect m r period rfl rfl running rfl
    have meter := (s.edgeSeen ch t protect).edgeToChannel_sameMeter ch (s.chan ch).monitor t
    refine ⟨_, execIndexLeadingEdge_seen s ch t protect running, meter.1, meter.2.trans ?_⟩
    rw [State.edgeSeen, State.chan_setChan_self]
    cases edge : (s.chan ch).monitor.lastEdge with
    | none => simp [Monitor.leadingEdge, Monitor.periodAt, edge, running, indexTimerAt]
    | some e =>
      simp [Monitor.leadingEdge, Monitor.periodAt, Monitor.period, edge, running, indexTimerAt, heldMicros]
  case idle =>
    intro s ch t protect still
    change execIndexLeadingEdge ch t protect s = _
    unfold execIndexLeadingEdge
    simp only [still]
    rfl
  case trailing =>
    rintro s ch t m rfl
    exact congrArg (fun m : Monitor => Host.Outcome.next (State.setChan { s with now := max s.now t } ch
      { s.chan ch with lines := { (s.chan ch).lines with index := false }, monitor := m }))
      ((s.chan ch).monitor.trailingEdge_eq (s.chan ch).active t)

/-! ### The timeout, and the edges on which no attempt turns -/

/-- The index timer of a running monitor is reached, and its channel is told (R97). -/
theorem exec_indexTimeout {s : State} {ch : ChannelNo} {due : Nat} (running : (s.chan ch).monitor.running = true)
    (timer : (s.chan ch).monitor.indexTimer = some due) :
    exec (.indexTimeout ch) s = .next ((State.setChan { s with now := max s.now due } ch
      ((s.chan ch).lapsed (max s.now due))).timeoutToChannel ch (s.chan ch).monitor.stable) := by
  change execIndexTimeout ch s = _
  refine congrArg _ ((if_pos running).trans ?_)
  dsimp only
  rw [State.now_reachTimer timer, State.modChan_reachTimer timer]
  rfl

/-- Settles O49: the monitor has lapsed in every state, and the channel's own part follows its state. -/
theorem indexTimeoutActsByState : Obligations.IndexTimeoutActsByState := by
  refine ⟨fun s ch still => congrArg _ (if_neg (by rw [still]; nofun)), ?_⟩
  rintro s u ch due running timer rfl
  generalize hu : State.setChan _ ch _ = u
  have told : exec (.indexTimeout ch) s = .next (u.timeoutToChannel ch (s.chan ch).monitor.stable) := by
    rw [exec_indexTimeout running timer, ← hu]; rfl
  have state : (u.chan ch).state = (s.chan ch).state := by rw [← hu, State.chan_setChan_self]
  have count : (u.chan ch).monitor.count = 0 := by rw [← hu, State.chan_setChan_self]
  rw [told]
  unfold State.timeoutToChannel
  rw [state]
  refine ⟨fun copying => ⟨_, congrArg _ (if_pos copying), State.endCopy_ended _ _ _⟩, fun st steady => congrArg _ ?lost,
    fun idle apart => congrArg _ ?stays⟩
  case lost =>
    rw [if_neg (by rw [st]; nofun), if_pos ⟨st, beq_iff_eq.mpr steady⟩, State.modChan_eq, Channel.readyLost,
      Channel.enterSpinup_on _ _ _ (by rw [state, st]; rfl), if_neg (by rw [count]; nofun)]
  case stays =>
    rw [if_neg (by rw [idle]; nofun), if_neg fun h => apart ⟨h.1, beq_iff_eq.mp h.2⟩]

section
variable {s : State} {ch : ChannelNo} (t : Nat) (protect : Bool) (running : (s.chan ch).monitor.running = true)

theorem State.edgeSeen_state (s : State) (ch : ChannelNo) (t : Nat) (protect : Bool) :
    ((s.edgeSeen ch t protect).chan ch).state = (s.chan ch).state := by
  rw [State.edgeSeen, State.chan_setChan_self]

theorem State.edgeSeen_attempt (s : State) (ch : ChannelNo) (t : Nat) (protect : Bool) :
    ((s.edgeSeen ch t protect).chan ch).attempt = (s.chan ch).attempt := by
  rw [State.edgeSeen, State.chan_setChan_self]

include running

/-! What a measured edge is to the channel, state by state. -/

theorem exec_edge_spinup (st : (s.chan ch).state = .spinup) :
    exec (.indexLeadingEdge ch t protect) s = .next (
      if stableReached (s.chan ch).monitor ((s.edgeSeen ch t protect).chan ch).monitor then
        (s.edgeSeen ch t protect).modChan ch fun c => c.stableInSpinup ch (s.edgeSeen ch t protect).now
      else s.edgeSeen ch t protect) := by
  rw [execIndexLeadingEdge_seen s ch t protect running]
  unfold State.edgeToChannel
  simp only [s.edgeSeen_state ch t protect, st]

theorem exec_edge_ready (st : (s.chan ch).state = .ready) :
    exec (.indexLeadingEdge ch t protect) s = .next (
      if stableLost (s.chan ch).monitor ((s.edgeSeen ch t protect).chan ch).monitor then
        (s.edgeSeen ch t protect).modChan ch fun c => c.readyLost ch (s.edgeSeen ch t protect).now
      else s.edgeSeen ch t protect) := by
  rw [execIndexLeadingEdge_seen s ch t protect running]
  unfold State.edgeToChannel
  simp only [s.edgeSeen_state ch t protect, st]

theorem exec_edge_recovers (st : (s.chan ch).state ∈ [.recalibrating, .seeking, .waitingTrack]) :
    exec (.indexLeadingEdge ch t protect) s = .next (s.recoverySeen ch t protect) := by
  rw [execIndexLeadingEdge_seen s ch t protect running, ← State.edgeSeen_recover]
  unfold State.edgeToChannel
  simp only [List.mem_cons, List.not_mem_nil, or_false] at st
  rcases st with st | st | st <;> simp only [s.edgeSeen_state ch t protect, st]

theorem exec_edge_waitingIndex (st : (s.chan ch).state = .waitingIndex) :
    exec (.indexLeadingEdge ch t protect) s = .next (
      if ((s.edgeSeen ch t protect).chan ch).monitor.stable then (s.recoverySeen ch t protect).beginAttempt ch t
      else s.recoverySeen ch t protect) := by
  rw [execIndexLeadingEdge_seen s ch t protect running, ← State.edgeSeen_recover]
  unfold State.edgeToChannel
  simp only [s.edgeSeen_state ch t protect, st]

theorem exec_edge_writing (st : (s.chan ch).state = .writing) {a : Attempt} (held : (s.chan ch).attempt = some a) :
    exec (.indexLeadingEdge ch t protect) s = .next ((s.recoverySeen ch t protect).endWrite ch a
      ((s.edgeSeen ch t protect).chan ch).monitor.stable t) := by
  rw [execIndexLeadingEdge_seen s ch t protect running, ← State.edgeSeen_recover]
  unfold State.edgeToChannel
  simp only [s.edgeSeen_state ch t protect, s.edgeSeen_attempt ch t protect, st, held]

theorem exec_edge_verifying (st : (s.chan ch).state = .verifying) {a : Attempt} (held : (s.chan ch).attempt = some a) :
    exec (.indexLeadingEdge ch t protect) s = .next ((s.recoverySeen ch t protect).endVerify ch a
      ((s.edgeSeen ch t protect).chan ch).monitor.stable) := by
  rw [execIndexLeadingEdge_seen s ch t protect running, ← State.edgeSeen_recover]
  unfold State.edgeToChannel
  simp only [s.edgeSeen_state ch t protect, s.edgeSeen_attempt ch t protect, st, held]

theorem exec_edge_told (st : (s.chan ch).state ∈ [.reporting, .rejecting]) :
    exec (.indexLeadingEdge ch t protect) s = .next (s.edgeSeen ch t protect) := by
  rw [execIndexLeadingEdge_seen s ch t protect running]
  unfold State.edgeToChannel
  simp only [List.mem_cons, List.not_mem_nil, or_false] at st
  rcases st with st | st <;> simp only [s.edgeSeen_state ch t protect, st]

end

theorem Monitor.stable_iff (m : Monitor) : m.stable = true ↔ m.count = 3 := beq_iff_eq

theorem stableReached_iff (before after : Monitor) : stableReached before after = true ↔ before.count ≠ 3 ∧ after.count = 3 := by
  simp [stableReached, Monitor.stable]

theorem stableLost_iff (before after : Monitor) : stableLost before after = true ↔ before.count = 3 ∧ after.count ≠ 3 := by
  simp [stableLost, Monitor.stable]

/-- STABLE reached in SPINUP, as one record (R67). -/
theorem Channel.stableInSpinup_eq (c : Channel) (ch : ChannelNo) (now : Nat) (on : c.state.motor = true) :
    c.stableInSpinup ch now =
      if c.lines.writeProtect then
        { c with state := .rejecting, spinUpTimer := none, held := c.held ++ [.channelEvent ch .writeProtected] }
      else
        { c with
          state := .ready, spinUpTimer := none
          idleTimer := if c.active.idleTimeout = 0 then none else some (now + c.active.idleTimeout * 1000000000) } := by
  unfold Channel.stableInSpinup
  split
  · exact c.enterRejecting_eq ch now _ on
  · exact congrArg (fun d : Channel => { d with
      spinUpTimer := none
      idleTimer := if c.active.idleTimeout = 0 then none else some (now + c.active.idleTimeout * 1000000000) })
      (c.enter_of_motor .ready now on)

/-- Settles O50: state by state; STABLE reached and lost are read off the in-limit counts. -/
theorem edgeQualifiesTheDrive : Obligations.EdgeQualifiesTheDrive := by
  rintro s u ch t protect running rfl
  have on : ∀ {st : ChState}, (s.chan ch).state = st → st.motor = true →
      ((s.edgeSeen ch t protect).chan ch).state.motor = true := fun st on => by rw [State.edgeSeen_state, st, on]
  have line : ((s.edgeSeen ch t protect).chan ch).lines.writeProtect = protect := by
    rw [State.edgeSeen, State.chan_setChan_self]
  refine ⟨fun st => ?spinup, fun st => ?ready, fun st => ?recovers, exec_edge_told t protect running⟩
  case spinup =>
    rw [exec_edge_spinup t protect running st]
    simp only [stableReached_iff, State.modChan_eq, Channel.stableInSpinup_eq _ _ _ (on st rfl), line]
  case ready =>
    rw [exec_edge_ready t protect running st]
    simp only [stableLost_iff, State.modChan_eq, Channel.readyLost, Channel.enterSpinup_on _ _ _ (on st rfl)]
    refine congrArg _ (ite_congr rfl (fun lost => ?_) fun _ => rfl)
    rw [if_neg lost.2]
  case recovers =>
    rcases st with st | ⟨st, unsteady⟩
    · exact exec_edge_recovers t protect running st
    · rw [exec_edge_waitingIndex t protect running st, if_neg fun h => unsteady ((Monitor.stable_iff _).mp h)]

/-! ### Steps and settle -/

/-- A track is ready in a format-only pass, and else if a COMPLETE slot holds it (R58, R73). -/
theorem State.trackIsReady_iff (s : State) (t : Nat) : s.trackIsReady t = true ↔
    s.job.source = .fill ∨ ∃ i : Fin 8, s.store.slots[i].state = .complete ∧ s.store.slots[i].track = some t := by
  rw [State.trackIsReady, Bool.or_eq_true, State.formatOnly, beq_iff_eq, Option.isSome_iff_exists]
  refine or_congr_right ⟨fun ⟨i, found⟩ => ⟨i, State.completeSlot_some found⟩, fun ⟨i, complete, track⟩ => ?_⟩
  exact State.exists_findSlot_eq_some (j := i) (Bool.and_eq_true_iff.mpr ⟨beq_iff_eq.mpr complete, beq_iff_eq.mpr track⟩)

/-- The settle loads the outer value below the boundary and the inner value from it on (R72). -/
theorem Channel.precompValue_eq {c : Channel} {cylinder : Nat} (at_cylinder : c.cylinder = some cylinder) (p : Precomp) :
    c.precompValue p =
      if c.active.autoPrecomp then (if cylinder < p.boundary then p.outer else p.inner) else c.active.manualPrecomp := by
  rw [Channel.precompValue, at_cylinder, Option.getD_some]
  refine ite_congr rfl (fun _ => ?_) fun _ => rfl
  by_cases inner : p.boundary ≤ cylinder
  · rw [if_pos inner, if_neg (Nat.not_lt.mpr inner)]
  · rw [if_neg inner, if_pos (Nat.not_le.mp inner)]

/-- Settles O51: the recalibration, the seek and the settle at the expiry of their intervals. -/
theorem stepsAndSettle : Obligations.StepsAndSettle := by
  refine ⟨?recal, ?seek, ?settle⟩
  case recal =>
    intro s u ch due track zero st timer cursor hu
    have state : (u.chan ch).state = .recalibrating := by rw [hu, State.chan_setChan_self, ← st]
    have held : (u.chan ch).cursor.getD 0 = track := by rw [hu, State.chan_setChan_self, cursor]; rfl
    have told : exec (.recalStepInterval ch zero) s = .next (
        if zero then
          u.modChan ch fun c =>
            ({ c with cylinder := some 0 } : Channel).enterSeeking (s.physicalCylinder (c.cursor.getD 0))
              (s.layout.headOf (c.cursor.getD 0)) u.now
        else if Config.recalSteps ≤ (s.chan ch).recalSteps then u.endCopy ch (.failed .recalFailed (some .reject))
        else u.modChan ch fun c => { c.pulse u.now with recalSteps := c.recalSteps + 1 }) := by
      rw [hu]
      refine congrArg _ ((if_pos ⟨st, isSome_of_running timer⟩).trans ?_)
      dsimp only
      rw [State.modChan_reachTimer timer]
      rfl
    rw [told]
    refine ⟨fun shown => congrArg _ ?seeks, fun shown last => ⟨_, congrArg _ ?fails, State.endCopy_ended _ _ _⟩,
      fun shown more => congrArg _ ?steps⟩
    case seeks =>
      rw [if_pos shown, State.modChan_eq,
        Channel.enterSeeking_begun { u.chan ch with cylinder := some 0 } _ _ _ (by rw [state]; rfl), held]
      rfl
    case fails => rw [if_neg (by rw [shown]; nofun), if_pos last]
    case steps =>
      rw [if_neg (by rw [shown]; nofun), if_neg (Nat.not_le.mpr more), State.modChan_eq, hu, State.chan_setChan_self]
      rfl
  case seek =>
    rintro s u ch due track st timer cursor rfl
    refine congrArg _ ((if_pos ⟨st, isSome_of_running timer⟩).trans ?_)
    dsimp only
    rw [State.now_reachTimer timer, State.modChan_reachTimer timer, cursor, Channel.seekOn_stepped]
    rfl
  case settle =>
    rintro s u ch due track cylinder p st timer cursor at_cylinder rfl rfl
    have track_eq : (s.chan ch).cursor.getD 0 = track := by rw [cursor]; rfl
    refine congrArg _ ((if_pos ⟨st, isSome_of_running timer⟩).trans ?_)
    dsimp only
    rw [State.now_reachTimer timer, State.modChan_reachTimer timer, track_eq,
      ite_congr (propext (s.trackIsReady_iff track)) (fun _ => rfl) fun _ => rfl, Channel.enter_of_motor, Channel.precompValue_eq at_cylinder]
    · rfl
    · dsimp only
      rw [st]
      split <;> rfl

end Sys2Proof.Machine
end

section
/-!
What the leading edges of the revolutions come to: an attempt begins, a write ends, a verify ends.
-/

namespace Sys2Proof.Machine

/-! ### What an edge leaves alone -/

section
variable (s : State) (ch : ChannelNo) (t : Nat) (protect : Bool)

theorem State.recoverySeen_chan : (s.recoverySeen ch t protect).chan ch =
    { s.chan ch with
      recoveryTimer := ((s.recoverySeen ch t protect).chan ch).recoveryTimer
      monitor := ((s.edgeSeen ch t protect).chan ch).monitor
      lines := { (s.chan ch).lines with index := true, writeProtect := protect } } := by
  simp only [State.recoverySeen, State.edgeSeen, State.chan_setChan_self]

theorem State.recoverySeen_state : ((s.recoverySeen ch t protect).chan ch).state = (s.chan ch).state := by
  rw [State.recoverySeen_chan]

theorem State.recoverySeen_monitor :
    ((s.recoverySeen ch t protect).chan ch).monitor = ((s.edgeSeen ch t protect).chan ch).monitor := by
  rw [State.recoverySeen_chan]

theorem State.recoverySeen_cursor : ((s.recoverySeen ch t protect).chan ch).cursor = (s.chan ch).cursor := by
  rw [State.recoverySeen_chan]

theorem State.recoverySeen_copy : ((s.recoverySeen ch t protect).chan ch).copy = (s.chan ch).copy := by
  rw [State.recoverySeen_chan]

theorem State.recoverySeen_protect : ((s.recoverySeen ch t protect).chan ch).lines.writeProtect = protect := by
  rw [State.recoverySeen_chan]

theorem State.recoverySeen_attemptSource (track : Nat) :
    (s.recoverySeen ch t protect).attemptSource track = s.attemptSource track := rfl

end

/-! ### An attempt begins -/

/-- A sector's data follows the job, the tables, the slots and the copy's serial and number. -/
theorem State.sectorData_congr {s t : State} {ch : ChannelNo} (job : t.control.job = s.control.job)
    (tables : t.tables = s.tables) (store : t.store = s.store) (context : t.patchContext ch = s.patchContext ch)
    (source : Source) (track : Nat) (id : Byte) : t.sectorData ch source track id = s.sectorData ch source track id := by
  have layout : t.layout = s.layout := State.layout_congr job tables
  have image : t.imageByte = s.imageByte := by
    funext source id pos
    cases source <;> simp only [State.imageByte, layout, store]
  simp only [State.sectorData, layout, tables, context, image]

theorem State.trackSymbols_congr {s t : State} {ch : ChannelNo} (job : t.control.job = s.control.job)
    (tables : t.tables = s.tables) (store : t.store = s.store) (context : t.patchContext ch = s.patchContext ch)
    (source : Source) (track gap : Nat) : t.trackSymbols ch source track gap = s.trackSymbols ch source track gap := by
  simp only [State.trackSymbols, State.layout_congr job tables, State.sectorData_congr job tables store context]

/-- The copy's serial and number are what the patches read of it. -/
theorem State.patchContext_congr {s t : State} {ch : ChannelNo} (job : t.control.job = s.control.job)
    {f : CopyRecord → CopyRecord} (copy : (t.chan ch).copy = (s.chan ch).copy.map f)
    (same : ∀ r, (f r).serial = r.serial ∧ (f r).copyNumber = r.copyNumber) :
    t.patchContext ch = s.patchContext ch := by
  simp only [State.patchContext, copy, State.job_congr job]
  cases (s.chan ch).copy with
  | none => rfl
  | some r => simp only [Option.map_some, Option.getD_some, (same r).1, (same r).2]

/-- The source of an attempt: the fill byte in a format-only pass, else the first COMPLETE slot of the track (R103). -/
theorem State.attemptSource_eq_some {s : State} {track : Nat} {source : Source}
    (h : s.job.source = .fill ∧ source = .fill ∨
      s.job.source = .stream ∧ ∃ i : Fin 8, source = .slot i ∧ s.store.slots[i].state = .complete ∧
        s.store.slots[i].track = some track ∧
        ∀ j : Fin 8, j < i → ¬(s.store.slots[j].state = .complete ∧ s.store.slots[j].track = some track)) :
    s.attemptSource track = some source := by
  unfold State.attemptSource State.formatOnly
  rcases h with ⟨fill, rfl⟩ | ⟨stream, i, rfl, complete, held, lowest⟩
  · rw [fill]; rfl
  · have found : s.completeSlot track = some i :=
      State.findSlot_eq_some (by rw [complete, held]; simp) fun j lower =>
        Bool.eq_false_iff.mpr fun holds =>
          lowest j lower (by rw [Bool.and_eq_true, beq_iff_eq, beq_iff_eq] at holds; exact holds)
    rw [stream, found]; rfl

theorem leastGapWith_eq (old : Option Nat) (g : Nat) : leastGapWith old g = some (min (old.getD g) g) := by
  cases old with
  | none => simp [leastGapWith]
  | some o => rfl

section
variable {s : State} {ch : ChannelNo} {track p : Nat} {source : Source} (cursor : (s.chan ch).cursor = some track)
  (planning : (s.chan ch).monitor.planning = some p) (read : s.attemptSource track = some source) (t : Nat)
include cursor planning read

/-- An attempt whose budget is over has failed, and one that fits begins its write (R11, R103). -/
theorem State.beginAttempt_over (budget : s.layout.budget p s.job.writeDelay = none) :
    s.beginAttempt ch t = s.attemptFailed ch .overBudget none := by
  unfold State.beginAttempt
  simp only [cursor, planning, Option.getD_some, read, budget]

theorem State.beginAttempt_fits {g : Nat} (budget : s.layout.budget p s.job.writeDelay = some g) :
    s.beginAttempt ch t = s.beginWrite ch (s.newAttempt source track g t) := by
  unfold State.beginAttempt
  simp only [cursor, planning, Option.getD_some, read, budget]

end

/-- The write revolution begins, with its attempt record in the channel (R103). -/
theorem State.beginWrite_eq {s : State} {ch : ChannelNo} (on : (s.chan ch).state.motor = true) (a : Attempt) {w : State}
    (hw : w = s.setChan ch
      { s.chan ch with
        state := .writing
        attempt := some a
        copy := (s.chan ch).copy.map fun r => { r with leastGap := some (min (r.leastGap.getD a.gap) a.gap) } }) :
    s.beginWrite ch a = if s.job.writeDelay = 0 then w.writeStart ch a else w := by
  have begun : (s.modChan ch fun c =>
      (({ c with attempt := some a } : Channel).modCopy fun r =>
        { r with leastGap := leastGapWith r.leastGap a.gap }).enter .writing s.now) = w := by
    rw [hw, State.modChan_eq]
    refine congrArg _ ((Channel.enter_of_motor (({ s.chan ch with attempt := some a } : Channel).modCopy fun r =>
      { r with leastGap := leastGapWith r.leastGap a.gap }) .writing s.now on).trans ?_)
    simp only [leastGapWith_eq]
    rfl
  unfold State.beginWrite
  rw [begun]

theorem State.writeStart_protected {s : State} {ch : ChannelNo} (protect : (s.chan ch).lines.writeProtect = true)
    (a : Attempt) : s.writeStart ch a = s.attemptFailed ch .protect none := if_pos protect

theorem State.writeStart_open {s : State} {ch : ChannelNo} (clear : (s.chan ch).lines.writeProtect = false) (a : Attempt) :
    s.writeStart ch a = s.setChan ch
      { s.chan ch with
        attempt := some { a with phase := .write, writeBegan := some (a.startEdge + s.job.writeDelay * 1000) }
        lines :=
          { (s.chan ch).lines with writeGate := true, writeData := s.trackSymbols ch a.source a.track a.gap } } :=
  if_neg (by rw [clear]; nofun)

/-- Settles O55: the edge leaves the budget and the source to read as they were; the attempt fails there, or the write
begins in `w`, where a write start delay of 0 is over. -/
theorem edgeBeginsAnAttempt : Obligations.EdgeBeginsAnAttempt := by
  intro s u ch t track p q r more protect source running st hu stable history cursor read
  have steady : ((s.edgeSeen ch t protect).chan ch).monitor.stable = true := by
    rw [Monitor.stable_iff, ← State.recoverySeen_monitor, ← hu, stable]
  have told : exec (.indexLeadingEdge ch t protect) s = .next (u.beginAttempt ch t) := by
    rw [exec_edge_waitingIndex t protect running st, if_pos steady, hu]
  have state : (u.chan ch).state = .waitingIndex := by rw [hu, State.recoverySeen_state, st]
  have on : (u.chan ch).state.motor = true := by rw [state]; rfl
  have at_track : (u.chan ch).cursor = some track := by rw [hu, State.recoverySeen_cursor, cursor]
  have planning : (u.chan ch).monitor.planning = some (min p (min q r)) := by rw [Monitor.planning, history]
  have source_eq : u.attemptSource track = some source := by
    rw [hu, State.recoverySeen_attemptSource, State.attemptSource_eq_some read]
  have layout : u.layout = s.layout := by rw [hu]; rfl
  have job : u.job = s.job := by rw [hu]; rfl
  refine ⟨fun over_budget => ⟨_, ?fails, State.attemptFailed_lost u ch .overBudget none on⟩, ?fits⟩
  case fails => rw [told, State.beginAttempt_over at_track planning source_eq t (by rw [layout, job, over_budget])]
  case fits =>
    intro g a w budget ha hw
    have begins : exec (.indexLeadingEdge ch t protect) s =
        .next (if s.job.writeDelay = 0 then w.writeStart ch a else w) := by
      have new : u.newAttempt source track g t = a := by rw [ha, State.newAttempt, layout]; rfl
      have gap : a.gap = g := by rw [ha]
      rw [told, State.beginAttempt_fits at_track planning source_eq t (by rw [layout, job, budget]), new,
        State.beginWrite_eq (w := w) on a (by rw [hw, gap]), job]
    have writing : (w.chan ch).state = .writing := by rw [hw, State.chan_setChan_self]
    have line : (w.chan ch).lines.writeProtect = protect := by
      rw [hw, State.chan_setChan_self, hu]
      exact s.recoverySeen_protect ch t protect
    have control : w.control = s.control := by rw [hw, hu]; rfl
    have laid : w.trackSymbols ch source track g = s.trackSymbols ch source track g :=
      State.trackSymbols_congr (congrArg PassControl.job control) (by rw [hw, hu]; rfl) (by rw [hw, hu]; rfl)
        (State.patchContext_congr (congrArg PassControl.job control)
          (f := fun r => { r with leastGap := some (min (r.leastGap.getD g) g) })
          (by rw [hw, State.chan_setChan_self, hu, State.recoverySeen_copy]) fun r => ⟨rfl, rfl⟩) source track g
    refine ⟨fun delay => ?delays, fun now clear => ?writes, fun now shut => ⟨_, ?fails,
      State.attemptFailed_lost w ch .protect none (by rw [writing]; rfl)⟩⟩
    case delays => rw [begins, if_neg (by omega)]
    case writes =>
      have due : t + w.job.writeDelay * 1000 = t := by
        rw [State.job_congr (congrArg PassControl.job control), now, Nat.zero_mul, Nat.add_zero]
      rw [begins, if_pos now, State.writeStart_open (by rw [line, clear]), ha]
      dsimp only
      rw [due, laid]
    case fails => rw [begins, if_pos now, State.writeStart_protected (by rw [line, shut])]

/-! ### A write ends -/

theorem Density.byteNs_eq (density : Density) : density.byteNs = if density = .d then 32000 else 16000 := by
  cases density <;> rfl

/-- The write position counts the bytes from the write start, up to the edge that ended the write if it has (R102). -/
theorem State.writePosition_began {s : State} {ch : ChannelNo} {a : Attempt} {began : Nat}
    (held : (s.chan ch).attempt = some a) (write : a.writeBegan = some began) :
    s.writePosition ch =
      some ((a.writeEnded.getD s.now - began) / if s.layout.density = .d then 32000 else 16000) := by
  rw [State.writePosition, held, Option.map_some, Attempt.writePosition, write, Density.byteNs_eq]

section
variable {s : State} {ch : ChannelNo} {a : Attempt} {stable : Bool} (t : Nat)

/-! The four endings of a write revolution, in the order of R107. -/

theorem State.endWrite_unstable (h : stable = false) :
    s.endWrite ch a stable t = (s.gateOff ch).attemptFailed ch .speed none := if_pos (by rw [h]; rfl)

theorem State.endWrite_truncated (h : stable = true) (last : a.lastCheck = false) :
    s.endWrite ch a stable t = (s.gateOff ch).attemptFailed ch .truncated none :=
  (if_neg (by rw [h]; nofun)).trans (if_pos (by rw [last]; rfl))

theorem State.endWrite_unverified (h : stable = true) (last : a.lastCheck = true) (level : s.layout.verify = .off) :
    s.endWrite ch a stable t = (s.gateOff ch).finishTrack ch a :=
  (if_neg (by rw [h]; nofun)).trans ((if_neg (by rw [last]; nofun)).trans (if_pos level))

theorem State.endWrite_verifies (h : stable = true) (last : a.lastCheck = true) (level : s.layout.verify ≠ .off)
    (on : (s.chan ch).state.motor = true) :
    s.endWrite ch a stable t = (s.gateOff ch).setChan ch
      { (s.gateOff ch).chan ch with state := .verifying, attempt := some (a.reading t s.now s.job.writeDelay) } :=
  (if_neg (by rw [h]; nofun)).trans ((if_neg (by rw [last]; nofun)).trans ((if_neg level).trans
    (congrArg ((s.gateOff ch).setChan ch) (Channel.enter_of_motor
      { (s.gateOff ch).chan ch with attempt := some (a.reading t s.now s.job.writeDelay) } .verifying s.now
      (by rw [State.gateOff, State.chan_setChan_self]; exact on)))))

end

/-- Settles O57: ending by ending. -/
theorem edgeEndsTheWrite : Obligations.EdgeEndsTheWrite := by
  intro s u ch t protect a running st held hu
  generalize hr : s.recoverySeen ch t protect = r at hu
  have state : (r.chan ch).state = .writing := by rw [← hr, State.recoverySeen_state, st]
  have on : (u.chan ch).state.motor = true := by rw [hu, State.gateOff, State.chan_setChan_self, state]; rfl
  have stable : ((s.edgeSeen ch t protect).chan ch).monitor.stable = true ↔ (u.chan ch).monitor.count = 3 := by
    rw [Monitor.stable_iff, ← State.recoverySeen_monitor, hu, State.gateOff, State.chan_setChan_self, hr]
  have told := exec_edge_writing t protect running st held
  rw [hr] at told
  have layout : r.layout = s.layout := by rw [← hr]; rfl
  refine ⟨fun lost => ⟨_, ?speed, u.attemptFailed_lost ch .speed none on⟩,
    fun steady last => ⟨_, ?truncated, u.attemptFailed_lost ch .truncated none on⟩,
    fun steady last level => ⟨_, ?unverified, u.finishTrack_finished ch a on⟩,
    fun steady last level => ⟨_, ?verifies, rfl, fun began later write => ?position⟩⟩
  case speed => rw [told, State.endWrite_unstable t (Bool.eq_false_iff.mpr fun h => lost (stable.mp h)), hu]
  case truncated => rw [told, State.endWrite_truncated t (stable.mpr steady) last, hu]
  case unverified => rw [told, State.endWrite_unverified t (stable.mpr steady) last (by rw [layout, level]), hu]
  case verifies =>
    rw [told, State.endWrite_verifies t (stable.mpr steady) last (by rw [layout]; exact level) (by rw [state]; rfl), ← hu]
    rw [hu, ← hr]
    rfl
  case position =>
    have density : u.layout = s.layout := by rw [hu]; exact layout
    rw [← density]
    refine State.writePosition_began (a := a.reading t u.now s.job.writeDelay) ?_ write
    change ((u.setChan ch _).chan ch).attempt = _
    rw [State.chan_setChan_self]
    rfl

/-! ### A verify ends -/

/-- A field that is awaited is lost: its sector is DATA-CHECK (R110, R113). -/
theorem Attempt.loseField_eq {a : Attempt} {outcomes : List SectorResult}
    (h : outcomes = (match a.search with
      | .awaiting i => a.outcomes.modify i fun r => { r with outcome := .dataCheck }
      | .discarding | .searching => a.outcomes)) :
    a.loseField = { a with outcomes := outcomes } := by
  rw [h]
  rcases a with ⟨_, _, _, _, _, _, _, _, _, _, search⟩
  cases search <;> rfl

theorem verifyDetailOf_good {outcomes : List SectorResult} (good : ∀ r ∈ outcomes, r.outcome = .good) :
    verifyDetailOf outcomes = none := by
  have none_bad : outcomes.filter (fun r => decide (r.outcome ≠ .good)) = [] :=
    List.filter_eq_nil_iff.mpr fun r mem => by simp [good r mem]
  unfold verifyDetailOf
  rw [none_bad]

theorem verifyDetailOf_bad {before after : List SectorResult} {bad : SectorResult}
    (good : ∀ r ∈ before, r.outcome = .good) (h : bad.outcome ≠ .good) :
    verifyDetailOf (before ++ bad :: after) =
      some ⟨1 + (after.filter fun r => decide (r.outcome ≠ .good)).length, bad.id, bad.outcome⟩ := by
  have none_bad : before.filter (fun r => decide (r.outcome ≠ .good)) = [] :=
    List.filter_eq_nil_iff.mpr fun r mem => by simp [good r mem]
  unfold verifyDetailOf
  rw [List.filter_append, none_bad, List.nil_append, List.filter_cons_of_pos (by simp [h]), Nat.add_comm 1]

section
variable {s : State} {ch : ChannelNo} {a : Attempt} {stable : Bool}

/-! The three endings of a verify revolution (R113 to R115). -/

theorem State.endVerify_unstable (h : stable = false) :
    s.endVerify ch a stable = s.attemptFailed ch .speed none := if_pos (by rw [h]; rfl)

theorem State.endVerify_good (h : stable = true) (good : verifyDetailOf a.loseField.outcomes = none) :
    s.endVerify ch a stable = s.finishTrack ch a := by
  unfold State.endVerify
  simp only [h, good]
  rfl

theorem State.endVerify_bad (h : stable = true) {detail : VerifyDetail}
    (bad : verifyDetailOf a.loseField.outcomes = some detail) :
    s.endVerify ch a stable = s.attemptFailed ch .verify (some detail) := by
  unfold State.endVerify
  simp only [h, bad]
  rfl

end

/-- Settles O58: ending by ending. -/
theorem edgeEndsTheVerify : Obligations.EdgeEndsTheVerify := by
  intro s u ch t protect a outcomes running st held hu lost
  have on : (u.chan ch).state.motor = true := by rw [hu, State.recoverySeen_state, st]; rfl
  have stable : ((s.edgeSeen ch t protect).chan ch).monitor.stable = true ↔ (u.chan ch).monitor.count = 3 := by
    rw [Monitor.stable_iff, ← State.recoverySeen_monitor, hu]
  have told := exec_edge_verifying t protect running st held
  rw [← hu] at told
  have fields : a.loseField.outcomes = outcomes := congrArg Attempt.outcomes (Attempt.loseField_eq lost)
  refine ⟨fun unsteady => ⟨_, ?speed, u.attemptFailed_lost ch .speed none on⟩,
    fun steady good => ⟨_, ?good, u.finishTrack_finished ch a on⟩,
    fun before after bad steady split good h => ⟨_, ?bad, u.attemptFailed_lost ch .verify _ on⟩⟩
  case speed => rw [told, State.endVerify_unstable (Bool.eq_false_iff.mpr fun h => unsteady (stable.mp h))]
  case good => rw [told, State.endVerify_good (stable.mpr steady) (by rw [fields, verifyDetailOf_good good])]
  case bad => rw [told, State.endVerify_bad (stable.mpr steady) (by rw [fields, split, verifyDetailOf_bad good h])]

end Sys2Proof.Machine
end

section
/-!
The write start, the write and the verifier's search.
-/

namespace Sys2Proof.Machine

/-! ### The attempt record in its phase -/

section
variable {s : State} {ch : ChannelNo} {st : ChState} {phase : Phase} {f : Attempt → State} {a : Attempt}

theorem State.withAttempt_held (held : (s.chan ch).attempt = some a) (state : (s.chan ch).state = st)
    (at_phase : a.phase = phase) : s.withAttempt ch st phase f = f a := by
  unfold State.withAttempt
  simp only [held]
  exact if_pos ⟨state, at_phase⟩

theorem State.withAttempt_state (h : (s.chan ch).state ≠ st) : s.withAttempt ch st phase f = s := by
  unfold State.withAttempt
  split
  · rfl
  · exact if_neg fun both => h both.1

theorem State.withAttempt_phase (held : (s.chan ch).attempt = some a) (h : a.phase ≠ phase) :
    s.withAttempt ch st phase f = s := by
  unfold State.withAttempt
  simp only [held]
  exact if_neg fun both => h both.2

end

/-! ### The track as it is laid down -/

theorem MarkKind.markCode_eq (kind : MarkKind) : kind.markCode = if kind = .normal then 0x6B else 0x6C := by
  cases kind <;> rfl

/-- The track, element by element (R8, R10). -/
theorem State.trackSymbols_eq (s : State) (ch : ChannelNo) (source : Source) (track gap : Nat) :
    s.trackSymbols ch source track gap =
      List.replicate s.layout.leadIn (.byte s.layout.fill) ++
        (s.layout.sectors.rotateLeft (track * s.layout.skew % s.layout.n)).flatMap fun e =>
          let header : List Byte :=
            [BitVec.ofNat 8 (track / s.layout.heads), BitVec.ofNat 8 (track % s.layout.heads), e.id,
              BitVec.ofNat 8 s.layout.sizeCode]
          let code : Byte := if e.kind = .normal then 0x6B else 0x6C
          let data := s.sectorData ch source track e.id
          List.replicate s.layout.syncRun (.byte 0x00) ++ [.sync, .sync, .sync, .byte 0x5A] ++
            header.map .byte ++
            (checkBytes (cyclicCheck ([0xB5, 0xB5, 0xB5, 0x5A] ++ header))).map .byte ++
            List.replicate s.layout.gapA (.byte s.layout.fill) ++
            List.replicate s.layout.syncRun (.byte 0x00) ++ [.sync, .sync, .sync, .byte code] ++
            data.map .byte ++
            (checkBytes (cyclicCheck ([0xB5, 0xB5, 0xB5, code] ++ data))).map .byte ++
            List.replicate gap (.byte s.layout.fill) := by
  unfold State.trackSymbols
  simp only [← MarkKind.markCode_eq]
  rfl

/-- The start delay is over: the drive's line is sampled, and the write starts or fails on it (R104). -/
theorem exec_writeStart {s : State} {ch : ChannelNo} {a : Attempt} (held : (s.chan ch).attempt = some a)
    (st : (s.chan ch).state = .writing) (delay : a.phase = .delay) (protect : Bool) :
    exec (.writeStart ch protect) s = .next (State.writeStart
      (State.setChan { s with now := max s.now (a.startEdge + s.job.writeDelay * 1000) } ch
        { s.chan ch with lines := { (s.chan ch).lines with writeProtect := protect } }) ch a) :=
  congrArg _ (State.withAttempt_held held st delay)

/-- Settles O56: the write position, the write start, the last check and the WRITE PROTECT line, phase by phase. -/
theorem writeStartLaysDownTheTrack : Obligations.WriteStartLaysDownTheTrack := by
  have on : ∀ {c : Channel}, c.state = .writing → c.state.motor = true := fun st => by rw [st]; rfl
  refine ⟨fun s ch h => congrArg _ (State.withAttempt_state (by rw [State.seeProtect, State.chan_modChan_self]; exact h)), ?_⟩
  rintro s ch a c l rfl rfl st held
  have seen : ((s.seeProtect ch true).chan ch).attempt = some a := by
    rw [State.seeProtect, State.chan_modChan_self, ← held]; rfl
  have state : ((s.seeProtect ch true).chan ch).state = .writing := by
    rw [State.seeProtect, State.chan_modChan_self, ← st]; rfl
  refine ⟨fun resting => ?rests, fun began write going => ?counts, fun began delay due => ⟨?opens, _, ?shuts,
      State.attemptFailed_lost _ ch .protect none (on (by rw [State.chan_setChan_self, ← st]))⟩,
    fun began count write started length => ?lastCheck, fun write => ⟨_, congrArg Host.Outcome.next (State.withAttempt_held seen state write),
      (s.seeProtect ch true).attemptFailed_lost ch .protect none (on state)⟩,
    fun delay => congrArg Host.Outcome.next (State.withAttempt_phase seen (by rw [delay]; nofun))⟩
  case rests => rw [State.writePosition, held, Option.map_some, Attempt.writePosition, resting]
  case counts => rw [State.writePosition_began held write, going, Option.getD_none]
  case opens =>
    have told := exec_writeStart held st delay false
    rw [← due] at told
    generalize hv : State.setChan { s with now := max s.now began } ch
      { s.chan ch with lines := { (s.chan ch).lines with writeProtect := false } } = v at told
    have job : v.control.job = s.control.job := by rw [← hv]; rfl
    have line : (v.chan ch).lines.writeProtect = false := by rw [← hv, State.chan_setChan_self]
    have laid : v.trackSymbols ch a.source a.track a.gap = s.trackSymbols ch a.source a.track a.gap :=
      State.trackSymbols_congr job (by rw [← hv]; rfl) (by rw [← hv]; rfl)
        (State.patchContext_congr job (f := id) (by rw [← hv, State.chan_setChan_self, Option.map_id]; rfl) fun _ => ⟨rfl, rfl⟩)
        a.source a.track a.gap
    rw [told, State.writeStart_open line, laid, State.trackSymbols_eq, State.job_congr job, ← due, ← hv,
      State.setChan_setChan, State.chan_setChan_self]
  case shuts =>
    rw [exec_writeStart held st delay true, ← due, State.writeStart_protected (by rw [State.chan_setChan_self])]
  case lastCheck =>
    refine congrArg _ ((State.withAttempt_held held st write).trans ?_)
    rw [started, Option.getD_some, Density.byteNs_eq, length]
    rfl

end Sys2Proof.Machine
end

section
/-!
The verifier's search: headers, data fields, and a whole track read back.
-/

namespace Sys2Proof.Machine

/-! ### The place in a list -/

theorem modify_append_cons {α : Type} (f : α → α) (before after : List α) (x : α) :
    (before ++ x :: after).modify before.length f = before ++ f x :: after := by
  induction before with
  | nil => rfl
  | cons y ys ih => simp [ih]

theorem findIdx?_append_cons {α : Type} {p : α → Bool} {before after : List α} {x : α} (none_before : ∀ b ∈ before, p b = false)
    (here : p x = true) : (before ++ x :: after).findIdx? p = some before.length := by
  rw [List.findIdx?_append, List.findIdx?_eq_none_iff.mpr none_before, List.findIdx?_cons, here]
  simp

/-! ### What the verifier does with an attempt record -/

section
variable {s : State} {ch : ChannelNo} {a : Attempt}

theorem State.setAttempt_held (held : (s.chan ch).attempt = some a) : s.setAttempt ch a = s := by
  have same : ({ s.chan ch with attempt := some a } : Channel) = s.chan ch := by rw [← held]
  rw [State.setAttempt, State.modChan_eq, same, State.setChan_chan]

theorem State.setAttempt_setAttempt (s : State) (ch : ChannelNo) (a b : Attempt) :
    (s.setAttempt ch a).setAttempt ch b = s.setAttempt ch b := by
  simp [State.setAttempt, State.modChan_eq]

theorem State.setAttempt_attempt (s : State) (ch : ChannelNo) (a : Attempt) : ((s.setAttempt ch a).chan ch).attempt = some a := by
  rw [State.setAttempt, State.chan_modChan_self]

theorem State.setAttempt_state (s : State) (ch : ChannelNo) (a : Attempt) :
    ((s.setAttempt ch a).chan ch).state = (s.chan ch).state := by
  rw [State.setAttempt, State.chan_modChan_self]

theorem exec_headerMarkRead (st : (s.chan ch).state = .verifying) (held : (s.chan ch).attempt = some a)
    (reads : a.phase = .read) (begun : a.search ≠ .discarding) (c h i z : Byte) (check : Check) :
    exec (.headerMarkRead ch c h i z check) s = .next (s.setAttempt ch (a.headerRead s.layout [c, h, i, z] check)) :=
  congrArg Host.Outcome.next ((State.withAttempt_held held st reads).trans (if_neg begun))

theorem exec_dataFieldRead (st : (s.chan ch).state = .verifying) (held : (s.chan ch).attempt = some a)
    (reads : a.phase = .read) (code : Byte) (bytes : List Byte) :
    exec (.dataFieldRead ch code bytes) s = .next (s.setAttempt ch (s.dataRead ch a code bytes)) :=
  congrArg Host.Outcome.next (State.withAttempt_held held st reads)

end

namespace Attempt

variable {a : Attempt} {l : Layout} {header : List Byte} {check : Check} {outcomes : List SectorResult}

/-- A header with a wrong check, or that names no unmatched sector of the track, is set aside (R109, R110). -/
theorem headerRead_aside (lost : a.loseField = { a with outcomes := outcomes })
    (h : check ≠ markCheck Config.codeHeader header ∨ ∀ r ∈ outcomes, r.matched = true ∨ header ≠ l.header a.track r.id) :
    a.headerRead l header check = { a with outcomes := outcomes, search := .searching } := by
  unfold Attempt.headerRead
  rw [lost]
  by_cases wrong : markCheck Config.codeHeader header ≠ check
  · rw [if_pos wrong]
  · have unnamed : ({ a with outcomes := outcomes } : Attempt).matchHeader l header = none := by
      refine List.findIdx?_eq_none_iff.mpr fun r mem => ?_
      rcases h with check_wrong | none_named
      · exact absurd (Ne.symm check_wrong) wrong
      · rcases none_named r mem with matched | other <;> simp [*]
    rw [if_neg wrong]
    simp only [unnamed]

/-- A header with its right check that names an unmatched sector has that sector's data field awaited (R109, R110). -/
theorem headerRead_matched {before after : List SectorResult} {r : SectorResult}
    (lost : a.loseField = { a with outcomes := before ++ r :: after }) (right : check = markCheck Config.codeHeader header)
    (others : ∀ b ∈ before, b.matched = true ∨ header ≠ l.header a.track b.id) (free : r.matched = false)
    (names : header = l.header a.track r.id) :
    a.headerRead l header check =
      { a with outcomes := before ++ { r with matched := true } :: after, search := .awaiting before.length } := by
  have found : ({ a with outcomes := before ++ r :: after } : Attempt).matchHeader l header = some before.length :=
    findIdx?_append_cons (fun b mem => Bool.and_eq_false_iff.mpr ((others b mem).imp (fun matched => by rw [matched]; rfl)
      beq_eq_false_iff_ne.mpr)) (by simp [free, names])
  unfold Attempt.headerRead
  rw [lost, if_neg (fun wrong => wrong right.symm)]
  simp only [found, modify_append_cons]

end Attempt

/-- The table of R111, for a sector of the layout. -/
theorem sectorOutcome_eq {l : Layout} {id : Byte} {kind : MarkKind} {pre post : List SectorEntry}
    (entry : l.sectors = pre ++ ⟨id, kind⟩ :: post) (first : ∀ e ∈ pre, e.id ≠ id) (code : Byte) (data expected : List Byte)
    (check : Check) :
    sectorOutcome l id code data check expected =
      if markCheck code data ≠ check then .dataCheck
      else if code ≠ (if kind = .normal then 0x6B else 0x6C) then .markKind
      else if l.verify = .compare ∧ data ≠ expected then .mismatch
      else .good := by
  have kind_eq : l.kindOf id = some kind := by
    have found : l.sectors.find? (fun e => e.id == id) = some ⟨id, kind⟩ :=
      List.find?_eq_some_iff_append.mpr ⟨by simp, pre, post, entry, fun e mem => by simp [first e mem]⟩
    rw [Layout.kindOf, found, Option.map_some]
  unfold sectorOutcome
  rw [kind_eq, Option.map_some, MarkKind.markCode_eq]
  simp only [ne_eq, Option.some_inj, eq_comm (a := code)]

section
variable {s : State} {ch : ChannelNo} {a : Attempt} {before after : List SectorResult} {r : SectorResult}

theorem State.dataRead_idle (idle : a.search = .discarding ∨ a.search = .searching) (code : Byte) (bytes : List Byte) :
    s.dataRead ch a code bytes = a := by
  unfold State.dataRead
  rcases idle with h | h <;> simp only [h]

theorem State.dataRead_cut (awaits : a.search = .awaiting before.length) (code : Byte) {bytes : List Byte}
    (cut : bytes.length < s.layout.size + 2) : s.dataRead ch a code bytes = a := by
  unfold State.dataRead
  simp only [awaits]
  exact if_neg fun whole => by omega

/-- A whole data field gives its sector the outcome of R111. -/
theorem State.dataRead_whole (awaits : a.search = .awaiting before.length) (list : a.outcomes = before ++ r :: after)
    {code : Byte} (data_mark : code = 0x6B ∨ code = 0x6C) {data : List Byte} (length : data.length = s.layout.size)
    (high low : Byte) (rest : List Byte) :
    s.dataRead ch a code (data ++ [high, low] ++ rest) =
      { a with
        search := .searching
        outcomes := before ++
          { r with
            outcome := sectorOutcome s.layout r.id code data (high ++ low) (s.sectorData ch a.source a.track r.id) } ::
            after } := by
  have here : a.outcomes[before.length]? = some r := by rw [list]; simp
  have taken : (data ++ [high, low] ++ rest).take s.layout.size = data := by
    rw [List.append_assoc, ← length, List.take_left]
  have dropped : (data ++ [high, low] ++ rest).drop s.layout.size = high :: low :: rest := by
    rw [List.append_assoc, ← length, List.drop_left]; rfl
  unfold State.dataRead
  simp only [awaits]
  rw [if_pos ⟨data_mark, by simp [length]⟩, taken, dropped]
  simp only [here]
  rw [Attempt.setOutcome, list, modify_append_cons]
  rfl

end

/-- Settles O59: what each mark makes of the attempt record, by the search. -/
theorem marksGiveTheOutcomes : Obligations.MarksGiveTheOutcomes := by
  intro s ch a with_ st held reads put
  have same : s.setAttempt ch a = s := State.setAttempt_held held
  refine ⟨fun waits => ⟨?delay, fun c h i z check => ?discards, fun code bytes => ?passes⟩,
    fun c h i z check outcomes begun lost => ⟨fun aside => ?aside, fun before after r right split others free names => ?matched⟩,
    fun searches code bytes => ?unasked, fun before after r code awaits list => ⟨fun bytes cut => ?cut,
      fun data rest high low kind data_mark length ⟨pre, post, entry, first⟩ => ?whole⟩⟩
  case delay =>
    rw [put]
    exact congrArg Host.Outcome.next ((State.withAttempt_held held st reads).trans (if_pos waits))
  case discards => exact congrArg Host.Outcome.next ((State.withAttempt_held held st reads).trans (if_pos waits))
  case passes => rw [exec_dataFieldRead st held reads, State.dataRead_idle (.inl waits), same]
  case aside =>
    rw [exec_headerMarkRead st held reads begun, Attempt.headerRead_aside (Attempt.loseField_eq lost) aside, put]
    rfl
  case matched =>
    rw [split] at lost
    have apart : ∀ b ∈ before, b.matched = true ∨ [c, h, i, z] ≠ s.layout.header a.track b.id := fun b mem =>
      (others b mem).imp_right fun other same =>
        other (Option.some.inj (congrArg (fun bytes : List Byte => bytes[2]?) same)).symm
    rw [exec_headerMarkRead st held reads begun,
      Attempt.headerRead_matched (Attempt.loseField_eq lost) right apart free names, put]
    rfl
  case unasked => rw [exec_dataFieldRead st held reads, State.dataRead_idle (.inr searches), same]
  case cut => rw [exec_dataFieldRead st held reads, State.dataRead_cut awaits code cut, same]
  case whole =>
    rw [exec_dataFieldRead st held reads, State.dataRead_whole awaits list data_mark length,
      sectorOutcome_eq entry first, put]
    rfl

/-! ### A track read back as it was written -/

theorem State.run_cons {s t : State} {c : Instr} (e : exec c s = .next t) (cs : List Instr) : s.run (c :: cs) = t.run cs := by
  rw [State.run, e]

/-- The header mark and the data mark of one sector, as the drive gives them back. -/
def State.sectorBack (s : State) (ch : ChannelNo) (source : Source) (track : Nat) (e : SectorEntry) : List Instr :=
  let header := s.layout.header track e.id
  let data := s.sectorData ch source track e.id
  [.headerMarkRead ch (byteAt header 0) (byteAt header 1) (byteAt header 2) (byteAt header 3)
      (markCheck Config.codeHeader header),
    .dataFieldRead ch e.kind.markCode (data ++ checkBytes (markCheck e.kind.markCode data))]

theorem State.readBack_eq (s : State) (ch : ChannelNo) (source : Source) (track : Nat) :
    s.readBack ch source track = (s.layout.physical track).flatMap (s.sectorBack ch source track) := by
  unfold State.readBack
  simp only [← MarkKind.markCode_eq]
  rfl

/-- A sector that is read back as it was written is GOOD. -/
theorem sectorOutcome_written {l : Layout} {e : SectorEntry} (mem : e ∈ l.sectors) (distinct : (l.sectors.map (·.id)).Nodup)
    (data : List Byte) :
    sectorOutcome l e.id e.kind.markCode data (markCheck e.kind.markCode data) data = .good := by
  obtain ⟨pre, post, entry⟩ := List.append_of_mem mem
  have first : ∀ d ∈ pre, d.id ≠ e.id := fun d before same => by
    rw [entry, List.map_append, List.map_cons] at distinct
    exact (List.nodup_append.mp distinct).2.2 _ (List.mem_map_of_mem before) _ (List.mem_cons_self ..) same
  rw [sectorOutcome_eq entry first, if_neg (fun h => h rfl), if_neg (fun h => h e.kind.markCode_eq),
    if_neg fun h => h.2 rfl]

/-- The results of sectors read back GOOD, and of those still to come. -/
def goodResults (es : List SectorEntry) : List SectorResult := es.map fun e => ⟨e.id, .good, true⟩

def awaitedResults (es : List SectorEntry) : List SectorResult := es.map fun e => ⟨e.id, .noHeader, false⟩

theorem Attempt.loseField_searching {a : Attempt} (h : a.search = .searching) : a.loseField = a := by
  unfold Attempt.loseField
  simp only [h]

theorem State.setAttempt_sectorData (s : State) (ch : ChannelNo) (a : Attempt) :
    (s.setAttempt ch a).sectorData ch = s.sectorData ch := by
  funext source track id
  have context : (s.setAttempt ch a).patchContext ch = s.patchContext ch :=
    State.patchContext_congr (f := fun r => r) rfl (by rw [State.setAttempt, State.chan_modChan_self, Option.map_id'])
      fun _ => ⟨rfl, rfl⟩
  exact State.sectorData_congr (s := s) (t := s.setAttempt ch a) rfl rfl rfl context source track id

theorem State.setAttempt_sectorBack (s : State) (ch : ChannelNo) (a : Attempt) :
    (s.setAttempt ch a).sectorBack ch = s.sectorBack ch := by
  funext source track e
  rw [State.sectorBack, State.setAttempt_sectorData]
  rfl

section
variable {s : State} {ch : ChannelNo} {a : Attempt} (st : (s.chan ch).state = .verifying)
  (held : (s.chan ch).attempt = some a) (reads : a.phase = .read)
include st held reads

/-- The header of the next sector is matched. -/
theorem exec_headerBack (searches : a.search = .searching) {before after : List SectorResult} {e : SectorEntry}
    (list : a.outcomes = before ++ ⟨e.id, .noHeader, false⟩ :: after) (matched : ∀ r ∈ before, r.matched = true) :
    exec (.headerMarkRead ch (byteAt (s.layout.header a.track e.id) 0) (byteAt (s.layout.header a.track e.id) 1)
        (byteAt (s.layout.header a.track e.id) 2) (byteAt (s.layout.header a.track e.id) 3)
        (markCheck Config.codeHeader (s.layout.header a.track e.id))) s =
      .next (s.setAttempt ch
        { a with
          outcomes := before ++ ⟨e.id, .noHeader, true⟩ :: after
          search := .awaiting before.length }) := by
  have lost : a.loseField = { a with outcomes := before ++ ⟨e.id, .noHeader, false⟩ :: after } := by
    rw [Attempt.loseField_searching searches, ← list]
  rw [exec_headerMarkRead st held reads (by rw [searches]; nofun)]
  exact congrArg (fun b => Host.Outcome.next (s.setAttempt ch b))
    (Attempt.headerRead_matched lost rfl (fun r mem => .inl (matched r mem)) rfl rfl)

/-- The data of the awaited sector is found GOOD. -/
theorem exec_dataBack {before after : List SectorResult} {e : SectorEntry} (awaits : a.search = .awaiting before.length)
    (list : a.outcomes = before ++ ⟨e.id, .noHeader, true⟩ :: after) (mem : e ∈ s.layout.sectors)
    (distinct : (s.layout.sectors.map (·.id)).Nodup) {data : List Byte} (sent : data = s.sectorData ch a.source a.track e.id) :
    exec (.dataFieldRead ch e.kind.markCode (data ++ checkBytes (markCheck e.kind.markCode data))) s =
      .next (s.setAttempt ch
        { a with
          search := .searching
          outcomes := before ++ ⟨e.id, .good, true⟩ :: after }) := by
  have good := sectorOutcome_written mem distinct data
  obtain ⟨high, low, check⟩ := check_halves (markCheck e.kind.markCode data)
  have data_mark : e.kind.markCode = 0x6B ∨ e.kind.markCode = 0x6C := by cases e.kind <;> decide
  rw [check] at good ⊢
  rw [checkBytes_append, ← List.append_nil (data ++ [high, low]), exec_dataFieldRead st held reads,
    State.dataRead_whole awaits list data_mark (by rw [sent, State.length_sectorData]), ← sent, good]

/-- The next sector in physical order is read back. -/
theorem State.run_sectorBack (searches : a.search = .searching) {before after : List SectorResult} {e : SectorEntry}
    (list : a.outcomes = before ++ ⟨e.id, .noHeader, false⟩ :: after) (matched : ∀ r ∈ before, r.matched = true)
    (mem : e ∈ s.layout.sectors) (distinct : (s.layout.sectors.map (·.id)).Nodup) (rest : List Instr) :
    s.run (s.sectorBack ch a.source a.track e ++ rest) =
      (s.setAttempt ch { a with outcomes := before ++ ⟨e.id, .good, true⟩ :: after }).run rest := by
  rw [State.sectorBack]
  refine (State.run_cons (exec_headerBack st held reads searches list matched) _).trans ?_
  refine (State.run_cons (exec_dataBack
    (a := { a with outcomes := before ++ ⟨e.id, .noHeader, true⟩ :: after, search := .awaiting before.length })
    ((State.setAttempt_state ..).trans st) (State.setAttempt_attempt ..) reads rfl rfl mem distinct
    (by rw [State.setAttempt_sectorData])) _).trans ?_
  rw [State.setAttempt_setAttempt, ← searches]
  rfl

end

/-- The sectors still to come are read back, one after another. -/
theorem State.run_readBack {s : State} {ch : ChannelNo} {a : Attempt} (st : (s.chan ch).state = .verifying)
    (reads : a.phase = .read) (searches : a.search = .searching) (distinct : (s.layout.sectors.map (·.id)).Nodup)
    (done todo : List SectorEntry) (mem : ∀ e ∈ todo, e ∈ s.layout.sectors) :
    (s.setAttempt ch { a with outcomes := goodResults done ++ awaitedResults todo }).run
        (todo.flatMap (s.sectorBack ch a.source a.track)) =
      s.setAttempt ch { a with outcomes := goodResults (done ++ todo) } := by
  induction todo generalizing done with
  | nil => simp [State.run, awaitedResults]
  | cons e todo ih =>
    have first := State.run_sectorBack
      (s := s.setAttempt ch { a with outcomes := goodResults done ++ awaitedResults (e :: todo) })
      ((State.setAttempt_state ..).trans st) (State.setAttempt_attempt ..) reads searches rfl
      (fun r among => by
        obtain ⟨d, -, rfl⟩ := List.mem_map.mp among
        rfl) (mem e List.mem_cons_self) distinct (todo.flatMap (s.sectorBack ch a.source a.track))
    rw [State.setAttempt_sectorBack, State.setAttempt_setAttempt] at first
    have next := ih (done ++ [e]) fun d later => mem d (List.mem_cons_of_mem _ later)
    rw [goodResults, List.map_append, List.append_assoc, List.append_assoc] at next
    exact first.trans next

/-- Settles O60: sector by sector in physical order. -/
theorem trackReadBackVerifiesGood : Obligations.TrackReadBackVerifiesGood := by
  intro s ch a st held reads searches list distinct
  have physical : ∀ e ∈ s.layout.physical a.track, e ∈ s.layout.sectors := fun e mem => by
    rw [Layout.physical, List.rotateLeft] at mem
    split at mem
    · exact mem
    · exact (List.mem_append.mp mem).elim List.mem_of_mem_drop List.mem_of_mem_take
  have start : s.setAttempt ch { a with outcomes := goodResults [] ++ awaitedResults (s.layout.physical a.track) } = s := by
    refine State.setAttempt_held (held.trans ?_)
    rw [goodResults, List.map_nil, List.nil_append, awaitedResults, Layout.physical, ← list]
  have runs := State.run_readBack st reads searches distinct [] (s.layout.physical a.track) physical
  rw [start] at runs
  rw [State.readBack_eq, runs]
  rfl

end Sys2Proof.Machine
end

section
/-!
The records that the image server sends, and what the part reads of them: codes, numbers, and whole records both ways.
-/

namespace Sys2Proof.Machine

/-! ### Bytes and numbers (R184) -/

theorem take_eq_map_byteAt {bs : List Byte} {k : Nat} (h : k ≤ bs.length) : bs.take k = (List.range k).map (byteAt bs) := by
  refine List.ext_getElem (by simp [h]) fun i first second => ?_
  have inside : i < bs.length := by simp at second; omega
  simp [byteAt, inside]

theorem eq_map_byteAt {bs : List Byte} {k : Nat} (h : bs.length = k) : bs = (List.range k).map (byteAt bs) := by
  rw [← take_eq_map_byteAt (Nat.le_of_eq h.symm), ← h, List.take_length]

theorem head?_eq_byteAt {bs : List Byte} (h : 0 < bs.length) : bs.head? = some (byteAt bs 0) := by
  cases bs with
  | nil => cases h
  | cons b bs => rfl

theorem num1_le (bs : List Byte) (i : Nat) : num1 bs i ≤ 255 := Nat.le_of_lt_succ (num1_lt bs i)

theorem num2_le (bs : List Byte) (i : Nat) : num2 bs i ≤ 65535 := Nat.le_of_lt_succ (num2_lt bs i)

theorem num3_le (bs : List Byte) (i : Nat) : num3 bs i ≤ 16777215 := by
  have high := num1_lt bs i
  have rest := num2_lt bs (i + 1)
  unfold num3
  omega

theorem ofNat_num1 (bs : List Byte) (i : Nat) : BitVec.ofNat 8 (num1 bs i) = byteAt bs i := by simp [num1]

theorem ofNat_num2_high (bs : List Byte) (i : Nat) : BitVec.ofNat 8 (num2 bs i / 256) = byteAt bs i := by
  have low := num1_lt bs (i + 1)
  rw [← ofNat_num1, num2]
  exact congrArg _ (by omega)

theorem ofNat_num2 (bs : List Byte) (i : Nat) : BitVec.ofNat 8 (num2 bs i) = byteAt bs (i + 1) := by
  refine BitVec.eq_of_toNat_eq ?_
  have low := num1_lt bs (i + 1)
  rw [BitVec.toNat_ofNat, num2]
  change _ = num1 bs (i + 1)
  omega

/-- The three bytes of a number. -/
theorem byte3_num3 (bs : List Byte) (i : Nat) : byte3 (num3 bs i) = [byteAt bs i, byteAt bs (i + 1), byteAt bs (i + 2)] := by
  have rest := num2_lt bs (i + 1)
  have first : num3 bs i / 65536 = num1 bs i := by unfold num3; omega
  have second : BitVec.ofNat 8 (num3 bs i / 256) = BitVec.ofNat 8 (num2 bs (i + 1) / 256) :=
    BitVec.eq_of_toNat_eq (by rw [BitVec.toNat_ofNat, BitVec.toNat_ofNat, num3]; omega)
  have third : BitVec.ofNat 8 (num3 bs i) = BitVec.ofNat 8 (num2 bs (i + 1)) :=
    BitVec.eq_of_toNat_eq (by rw [BitVec.toNat_ofNat, BitVec.toNat_ofNat, num3]; omega)
  rw [byte3, byte2, first, second, third, ofNat_num1, ofNat_num2_high, ofNat_num2]

theorem toNat_three_bytes_of_le {n : Nat} (h : n ≤ 16777215) :
    (BitVec.ofNat 8 (n / 65536)).toNat * 65536 +
      ((BitVec.ofNat 8 (n / 256)).toNat * 256 + (BitVec.ofNat 8 n).toNat) = n := by
  simp only [BitVec.toNat_ofNat]
  omega

/-! ### The codes (R186) -/

/-- A reading by codes names its first code, or goes on to the next. -/
theorem code_cases {α : Type} {x e : α} {b k : Byte} {rest : Option α} (h : (if b = k then some x else rest) = some e) :
    (b = k ∧ x = e) ∨ rest = some e := by
  split at h
  case isTrue named => exact .inl ⟨named, Option.some.inj h⟩
  case isFalse => exact .inr h

theorem readDensity_iff {b : Byte} {density : Density} : readDensity b = some density ↔ b = BitVec.ofNat 8 density.code := by
  refine ⟨fun h => ?_, ?_⟩
  · rcases code_cases h with ⟨rfl, rfl⟩ | h
    · rfl
    rcases code_cases h with ⟨rfl, rfl⟩ | ⟨⟨⟩⟩
    rfl
  · rintro rfl
    cases density <;> rfl

theorem readMarkKind_iff {b : Byte} {kind : MarkKind} : readMarkKind b = some kind ↔ b = BitVec.ofNat 8 kind.code := by
  refine ⟨fun h => ?_, ?_⟩
  · rcases code_cases h with ⟨rfl, rfl⟩ | h
    · rfl
    rcases code_cases h with ⟨rfl, rfl⟩ | ⟨⟨⟩⟩
    rfl
  · rintro rfl
    cases kind <;> rfl

theorem readDriveType_iff {b : Byte} {drive : DriveType} : readDriveType b = some drive ↔ b = BitVec.ofNat 8 drive.code := by
  refine ⟨fun h => ?_, ?_⟩
  · rcases code_cases h with ⟨rfl, rfl⟩ | h
    · rfl
    rcases code_cases h with ⟨rfl, rfl⟩ | ⟨⟨⟩⟩
    rfl
  · rintro rfl
    cases drive <;> rfl

theorem readYesNo_iff {b : Byte} {yes : Bool} : readYesNo b = some yes ↔ yesNo yes = [b] := by
  refine ⟨fun h => ?_, ?_⟩
  · rcases code_cases h with ⟨rfl, rfl⟩ | h
    · rfl
    rcases code_cases h with ⟨rfl, rfl⟩ | ⟨⟨⟩⟩
    rfl
  · cases yes <;> (intro h; cases h; rfl)

theorem readVerify_iff {b : Byte} {level : VerifyLevel} : readVerify b = some level ↔ b = BitVec.ofNat 8 level.code := by
  refine ⟨fun h => ?_, ?_⟩
  · rcases code_cases h with ⟨rfl, rfl⟩ | h
    · rfl
    rcases code_cases h with ⟨rfl, rfl⟩ | h
    · rfl
    rcases code_cases h with ⟨rfl, rfl⟩ | ⟨⟨⟩⟩
    rfl
  · rintro rfl
    cases level <;> rfl

theorem readNumberForm_iff {b : Byte} {form : NumberForm} : readNumberForm b = some form ↔ b = BitVec.ofNat 8 form.code := by
  refine ⟨fun h => ?_, ?_⟩
  · rcases code_cases h with ⟨rfl, rfl⟩ | h
    · rfl
    rcases code_cases h with ⟨rfl, rfl⟩ | h
    · rfl
    rcases code_cases h with ⟨rfl, rfl⟩ | ⟨⟨⟩⟩
    rfl
  · rintro rfl
    cases form <;> rfl

theorem readPatchFunction_iff {b : Byte} {function : PatchFunction} :
    readPatchFunction b = some function ↔ b = BitVec.ofNat 8 function.code := by
  refine ⟨fun h => ?_, ?_⟩
  · rcases code_cases h with ⟨rfl, rfl⟩ | h
    · rfl
    rcases code_cases h with ⟨rfl, rfl⟩ | h
    · rfl
    rcases code_cases h with ⟨rfl, rfl⟩ | h
    · rfl
    rcases code_cases h with ⟨rfl, rfl⟩ | ⟨⟨⟩⟩
    rfl
  · rintro rfl
    cases function <;> rfl

/-- A source with its form, as the two bytes that R186 gives the pair (R137). -/
theorem readPatchSource_iff {source form : Byte} {p : PatchSource} :
    readPatchSource source form = some p ↔ p.encode = [source, form] := by
  refine ⟨fun h => ?_, ?_⟩
  · unfold readPatchSource at h
    split at h
    case isTrue zero =>
      rcases code_cases h with ⟨rfl, rfl⟩ | ⟨⟨⟩⟩
      rw [zero]; rfl
    case isFalse =>
      split at h
      case isTrue one =>
        obtain ⟨f, read, rfl⟩ := Option.map_eq_some_iff.mp h
        rw [one, readNumberForm_iff.mp read]; rfl
      case isFalse =>
        split at h
        case isTrue two =>
          obtain ⟨f, read, rfl⟩ := Option.map_eq_some_iff.mp h
          rw [two, readNumberForm_iff.mp read]; rfl
        case isFalse =>
          split at h
          case isTrue three =>
            rcases code_cases h with ⟨rfl, rfl⟩ | ⟨⟨⟩⟩
            rw [three]; rfl
          case isFalse => cases h
  · intro h
    cases p with
    | serial => cases h; rfl
    | constant => cases h; rfl
    | copyNumber f => cases h; cases f <;> rfl
    | channelNumber f => cases h; cases f <;> rfl

/-- A byte above the codes of a field names no value. -/
theorem read_eq_none {α : Type} {read : Byte → Option α} {code : α → Nat} {greatest : Nat}
    (names : ∀ {b e}, read b = some e → b = BitVec.ofNat 8 (code e)) (least : ∀ e, code e ≤ greatest) {b : Byte}
    (above : greatest < b.toNat) : read b = none := by
  cases h : read b with
  | none => rfl
  | some e =>
    have small := least e
    rw [names h, BitVec.toNat_ofNat] at above
    omega

/-! ### Layout records -/

/-- The bytes of a sector list (R186). -/
abbrev sectorBytes (es : List SectorEntry) : List Byte := es.flatMap fun e => [e.id] ++ byte1 e.kind.code

theorem readSectors_sectorBytes (es : List SectorEntry) : readSectors (sectorBytes es) = some es := by
  induction es with
  | nil => rfl
  | cons e es ih =>
    have kind : readMarkKind (BitVec.ofNat 8 e.kind.code) = some e.kind := readMarkKind_iff.mpr rfl
    change readSectors (e.id :: BitVec.ofNat 8 e.kind.code :: sectorBytes es) = _
    rw [readSectors, kind, ih]

theorem eq_sectorBytes {bs : List Byte} {es : List SectorEntry} (h : readSectors bs = some es) : bs = sectorBytes es := by
  induction bs using readSectors.induct generalizing es with
  | case1 => cases h; rfl
  | case2 => cases h
  | case3 id kind rest k _ read_rest read_kind ih =>
    rw [readSectors, read_kind, read_rest] at h
    cases h
    rw [readMarkKind_iff.mp read_kind, ih read_rest]
    rfl
  | case4 id kind rest unread =>
    rw [readSectors] at h
    split at h
    case h_1 k es' read_kind read_rest => exact absurd read_rest (unread k es' read_kind)
    case h_2 => cases h

/-- The ranges of R2 and the conditions of R3, as they stand in the manual. -/
theorem Layout.valid_iff (l : Layout) : l.valid = true ↔
    ((1 ≤ l.heads ∧ l.heads ≤ 2) ∧ (1 ≤ l.cylinders ∧ l.cylinders ≤ 84) ∧ l.sizeCode ≤ 3 ∧ (1 ≤ l.n ∧ l.n ≤ 48) ∧
      l.skew < l.n ∧ l.leadIn ≤ 1000 ∧ (4 ≤ l.syncRun ∧ l.syncRun ≤ 32) ∧ (2 ≤ l.gapA ∧ l.gapA ≤ 64) ∧
      (1 ≤ l.gapB ∧ l.gapB ≤ 255) ∧ (1 ≤ l.gapBMin ∧ l.gapBMin ≤ l.gapB) ∧ l.tailMin ≤ 1000 ∧ l.spliceGuard ≤ 255 ∧
      (l.sectors.map (·.id)).Nodup ∧ l.n * l.size ≤ Config.slotBytes) := by
  simp only [Layout.valid, Bool.and_eq_true, decide_eq_true_eq, and_assoc]

theorem Layout.codable_of_valid {l : Layout} (valid : l.valid = true) : l.codable = true := by
  obtain ⟨heads, cylinders, size, sectors, skew, leadIn, sync, gapA, gapB, gapBMin, tail, guard, -, -⟩ := l.valid_iff.mp valid
  simp only [Layout.codable, Bool.and_eq_true, decide_eq_true_eq]
  omega

/-- The record, byte by byte. -/
theorem Layout.encode_eq (l : Layout) : l.encode =
    0x00 :: BitVec.ofNat 8 l.density.code :: BitVec.ofNat 8 (l.heads * 16 + l.sizeCode) :: BitVec.ofNat 8 l.cylinders ::
      BitVec.ofNat 8 l.n :: BitVec.ofNat 8 l.skew :: BitVec.ofNat 8 (l.leadIn / 256) :: BitVec.ofNat 8 l.leadIn ::
      BitVec.ofNat 8 l.syncRun :: BitVec.ofNat 8 l.gapA :: BitVec.ofNat 8 l.gapB :: BitVec.ofNat 8 l.gapBMin ::
      BitVec.ofNat 8 (l.tailMin / 256) :: BitVec.ofNat 8 l.tailMin :: BitVec.ofNat 8 l.spliceGuard :: l.fill ::
      BitVec.ofNat 8 l.verify.code :: sectorBytes l.sectors := by
  simp only [Layout.encode, byte1, byte2, List.cons_append, List.nil_append]
  rfl

/-- A layout that fits its bytes is read back if it is valid, and refused if not (R152). -/
theorem readLayout_encode {l : Layout} (fits : l.codable = true) : readLayout l.encode = if l.valid then some l else none := by
  simp only [Layout.codable, Bool.and_eq_true, decide_eq_true_eq] at fits
  obtain ⟨⟨⟨⟨⟨heads, size⟩, cylinders, count, skew⟩, leadIn, tail⟩, sync, gapA⟩, gapB, gapBMin, guard⟩ := fits
  generalize record : l.encode = rec
  rw [Layout.encode_eq] at record
  have density : readDensity (byteAt rec 1) = some l.density := by rw [← record]; exact readDensity_iff.mpr rfl
  have verify : readVerify (byteAt rec 16) = some l.verify := by rw [← record]; exact readVerify_iff.mpr rfl
  have sectors : readSectors (rec.drop 17) = some l.sectors := by rw [← record]; exact readSectors_sectorBytes l.sectors
  have both : num1 rec 2 = l.heads * 16 + l.sizeCode := by rw [← record]; exact toNat_byte_of_le (by omega)
  have heads_field : num1 rec 2 / 16 = l.heads := by omega
  have size_field : num1 rec 2 % 16 = l.sizeCode := by omega
  have cylinders_field : num1 rec 3 = l.cylinders := by rw [← record]; exact toNat_byte_of_le cylinders
  have skew_field : num1 rec 5 = l.skew := by rw [← record]; exact toNat_byte_of_le skew
  have leadIn_field : num2 rec 6 = l.leadIn := by rw [← record]; exact toNat_bytes_of_le leadIn
  have sync_field : num1 rec 8 = l.syncRun := by rw [← record]; exact toNat_byte_of_le sync
  have gapA_field : num1 rec 9 = l.gapA := by rw [← record]; exact toNat_byte_of_le gapA
  have gapB_field : num1 rec 10 = l.gapB := by rw [← record]; exact toNat_byte_of_le gapB
  have gapBMin_field : num1 rec 11 = l.gapBMin := by rw [← record]; exact toNat_byte_of_le gapBMin
  have tail_field : num2 rec 12 = l.tailMin := by rw [← record]; exact toNat_bytes_of_le tail
  have guard_field : num1 rec 14 = l.spliceGuard := by rw [← record]; exact toNat_byte_of_le guard
  have fill_field : byteAt rec 15 = l.fill := by rw [← record]; rfl
  unfold readLayout
  simp only [density, verify, sectors, heads_field, size_field, cylinders_field, skew_field, leadIn_field, sync_field,
    gapA_field, gapB_field, gapBMin_field, tail_field, guard_field, fill_field]

theorem readLayoutRecord_encode {l : Layout} (fits : l.codable = true) :
    readLayoutRecord l.encode = if l.valid then some (some l) else none := by
  have flag : byteAt l.encode 0 = 0x00 := rfl
  rw [readLayoutRecord, flag, if_neg (by decide), if_pos rfl, readLayout_encode fits]
  split <;> rfl

theorem Layout.length_encode (l : Layout) : l.encode.length = 17 + 2 * l.n := by
  have bytes : (sectorBytes l.sectors).length = 2 * l.sectors.length := by
    rw [length_flatMap_of_const (len := 2) fun _ => rfl]; omega
  rw [Layout.encode_eq]
  simp only [List.length_cons, bytes, Layout.n]
  omega

/-- A whole record that is read as an entry is one that R186 gives the entry (R152). -/
theorem readLayoutRecord_sent {rec : List Byte} (length : rec.length = 17 + 2 * num1 rec 4) {entry : Option Layout}
    (read : readLayoutRecord rec = some entry) : Layout.Sent rec entry := by
  have valid := readLayoutRecord_valid read
  unfold readLayoutRecord at read
  split at read
  case isTrue unused =>
    cases read
    exact ⟨by rw [head?_eq_byteAt (by omega), unused], length⟩
  case isFalse =>
    split at read
    case isFalse => cases read
    case isTrue used =>
      obtain ⟨l, reads, rfl⟩ := Option.map_eq_some_iff.mp read
      refine ⟨valid l rfl, ?_⟩
      unfold readLayout at reads
      split at reads
      case h_2 => cases reads
      case h_1 density verify sectors read_density read_verify read_sectors =>
        dsimp only at reads
        split at reads
        case isFalse => cases reads
        case isTrue =>
          cases reads
          have drop_eq := eq_sectorBytes read_sectors
          have bytes : (rec.drop 17).length = 2 * sectors.length := by
            rw [drop_eq, length_flatMap_of_const (len := 2) fun _ => rfl]; omega
          have count : sectors.length = num1 rec 4 := by rw [List.length_drop] at bytes; omega
          calc rec = rec.take 17 ++ rec.drop 17 := (List.take_append_drop 17 rec).symm
            _ = (List.range 17).map (byteAt rec) ++ sectorBytes sectors := by
              rw [take_eq_map_byteAt (by omega), ← drop_eq]
            _ = _ := by
              rw [Layout.encode_eq]
              simp only [Layout.n, count, ← readDensity_iff.mp read_density, ← readVerify_iff.mp read_verify, ofNat_num1,
                ofNat_num2_high, ofNat_num2, Nat.div_add_mod', ← used]
              rfl

/-! ### Patch records -/

theorem PatchSource.encode_pair (p : PatchSource) : ∃ source form : Byte, p.encode = [source, form] := by
  cases p <;> exact ⟨_, _, rfl⟩

/-- The record, byte by byte. -/
theorem Patch.encode_eq (p : Patch) {source form : Byte} (pair : p.source.encode = [source, form]) : p.encode =
    0x01 :: BitVec.ofNat 8 p.track :: p.sector :: BitVec.ofNat 8 (p.offset / 256) :: BitVec.ofNat 8 p.offset ::
      BitVec.ofNat 8 p.length :: source :: form :: BitVec.ofNat 8 p.function.code :: p.mask :: p.constant := by
  simp only [Patch.encode, pair, byte1, byte2, List.cons_append, List.nil_append]
  rfl

theorem Patch.inRange_iff (p : Patch) : p.inRange = true ↔
    p.track ≤ 167 ∧ p.offset ≤ 1023 ∧ 1 ≤ p.length ∧ p.length ≤ 16 := by
  simp only [Patch.inRange, Bool.and_eq_true, decide_eq_true_eq, and_assoc]

theorem Patch.codable_iff (p : Patch) : p.codable = true ↔
    (p.track ≤ 255 ∧ p.length ≤ 255) ∧ p.offset ≤ 65535 ∧ p.constant.length = 16 := by
  simp only [Patch.codable, Bool.and_eq_true, decide_eq_true_eq, beq_iff_eq, and_assoc]

theorem Patch.valid_iff (p : Patch) : p.valid = true ↔ p.inRange = true ∧ p.constant.length = 16 := by
  simp only [Patch.valid, Bool.and_eq_true, beq_iff_eq]

theorem Patch.codable_of_valid {p : Patch} (valid : p.valid = true) : p.codable = true := by
  obtain ⟨range, whole⟩ := p.valid_iff.mp valid
  have fields := p.inRange_iff.mp range
  exact p.codable_iff.mpr ⟨by omega, by omega, whole⟩

/-- A patch that fits its bytes is read back if it is in range, and refused if not (R153). -/
theorem readPatch_encode {p : Patch} (fits : p.codable = true) : readPatch p.encode = if p.inRange then some p else none := by
  obtain ⟨⟨track, length⟩, offset, whole⟩ := p.codable_iff.mp fits
  obtain ⟨source, form, pair⟩ := p.source.encode_pair
  generalize record : p.encode = rec
  rw [p.encode_eq pair] at record
  have source_field : readPatchSource (byteAt rec 6) (byteAt rec 7) = some p.source := by
    rw [← record]; exact readPatchSource_iff.mpr pair
  have function_field : readPatchFunction (byteAt rec 8) = some p.function := by
    rw [← record]; exact readPatchFunction_iff.mpr rfl
  have track_field : num1 rec 1 = p.track := by rw [← record]; exact toNat_byte_of_le track
  have sector_field : byteAt rec 2 = p.sector := by rw [← record]; rfl
  have offset_field : num2 rec 3 = p.offset := by rw [← record]; exact toNat_bytes_of_le offset
  have length_field : num1 rec 5 = p.length := by rw [← record]; exact toNat_byte_of_le length
  have mask_field : byteAt rec 9 = p.mask := by rw [← record]; rfl
  have constant_field : (rec.drop 10).take 16 = p.constant := by
    rw [← record, ← whole]; exact List.take_length
  unfold readPatch
  simp only [source_field, function_field, track_field, sector_field, offset_field, length_field, mask_field,
    constant_field]

theorem readPatchRecord_encode {p : Patch} (fits : p.codable = true) :
    readPatchRecord p.encode = if p.inRange then some (some p) else none := by
  have flag : byteAt p.encode 0 = 0x01 := rfl
  rw [readPatchRecord, flag, if_neg (by decide), if_pos rfl, readPatch_encode fits]
  split <;> rfl

theorem Patch.length_encode {p : Patch} (whole : p.constant.length = 16) : p.encode.length = 26 := by
  obtain ⟨source, form, pair⟩ := p.source.encode_pair
  rw [p.encode_eq pair]
  simp only [List.length_cons, whole]

/-- A whole record that is read as an entry is one that R186 gives the entry (R153). -/
theorem readPatchRecord_sent {rec : List Byte} (length : rec.length = 26) {entry : Option Patch}
    (read : readPatchRecord rec = some entry) : Patch.Sent rec entry := by
  have valid := readPatchRecord_valid (Nat.le_of_eq length.symm) read
  unfold readPatchRecord at read
  split at read
  case isTrue unused =>
    cases read
    exact ⟨by rw [head?_eq_byteAt (by omega), unused], length⟩
  case isFalse =>
    split at read
    case isFalse => cases read
    case isTrue used =>
      obtain ⟨p, reads, rfl⟩ := Option.map_eq_some_iff.mp read
      refine ⟨valid p rfl, ?_⟩
      unfold readPatch at reads
      split at reads
      case h_2 => cases reads
      case h_1 source function read_source read_function =>
        dsimp only at reads
        split at reads
        case isFalse => cases reads
        case isTrue =>
          cases reads
          have rest : (rec.drop 10).take 16 = rec.drop 10 := List.take_of_length_le (by rw [List.length_drop]; omega)
          calc rec = rec.take 10 ++ rec.drop 10 := (List.take_append_drop 10 rec).symm
            _ = (List.range 10).map (byteAt rec) ++ rec.drop 10 := by rw [take_eq_map_byteAt (by omega)]
            _ = _ := by
              rw [Patch.encode_eq _ (readPatchSource_iff.mp read_source)]
              simp only [← readPatchFunction_iff.mp read_function, ofNat_num1, ofNat_num2_high, ofNat_num2, ← used, rest]
              rfl

/-! ### Precompensation records -/

theorem Precomp.encode_eq (p : Precomp) :
    p.encode = [BitVec.ofNat 8 p.boundary, BitVec.ofNat 8 p.outer, BitVec.ofNat 8 p.inner] := rfl

/-- Precompensation values that fit their bytes are read back if they are at most 15, and refused if not (R156). -/
theorem readPrecomp_encode {p : Precomp} (boundary : p.boundary ≤ 255) (outer : p.outer ≤ 255) (inner : p.inner ≤ 255) :
    readPrecomp p.encode = if p.outer ≤ 15 ∧ p.inner ≤ 15 then some p else none := by
  have boundary_field : num1 p.encode 0 = p.boundary := toNat_byte_of_le boundary
  have outer_field : num1 p.encode 1 = p.outer := toNat_byte_of_le outer
  have inner_field : num1 p.encode 2 = p.inner := toNat_byte_of_le inner
  rw [readPrecomp, boundary_field, outer_field, inner_field]

/-- A whole record that is read is one that R186 gives its values (R156). -/
theorem readPrecomp_sent {rec : List Byte} (length : rec.length = 3) {p : Precomp} (read : readPrecomp rec = some p) :
    Precomp.Sent rec p := by
  obtain ⟨outer, inner⟩ := readPrecomp_valid read
  unfold readPrecomp at read
  split at read
  case isFalse => cases read
  case isTrue =>
    cases read
    refine ⟨Nat.le_of_lt_succ (num1_lt rec 0), outer, inner, ?_⟩
    rw [Precomp.encode_eq]
    simp only [ofNat_num1]
    exact eq_map_byteAt length

/-! ### Channel settings records -/

theorem yesNo_byte (yes : Bool) : ∃ b : Byte, yesNo yes = [b] := by cases yes <;> exact ⟨_, rfl⟩

/-- The record, byte by byte. -/
theorem Settings.encode_eq (r : Settings) {enabled rearm auto : Byte} (enabled_byte : yesNo r.enabled = [enabled])
    (rearm_byte : yesNo r.autoRearm = [rearm]) (auto_byte : yesNo r.autoPrecomp = [auto]) : r.encode =
    [enabled, BitVec.ofNat 8 r.driveType.code, BitVec.ofNat 8 r.stepRate, BitVec.ofNat 8 r.settle, rearm,
      BitVec.ofNat 8 r.idleTimeout, BitVec.ofNat 8 r.sortDelay, BitVec.ofNat 8 (r.sortWidth / 256),
      BitVec.ofNat 8 r.sortWidth, BitVec.ofNat 8 r.ejectTimeout, auto, BitVec.ofNat 8 r.manualPrecomp] ++
      byte3 r.periodMin ++ byte3 r.periodMax ++
      [BitVec.ofNat 8 (r.pulseMin / 256), BitVec.ofNat 8 r.pulseMin, BitVec.ofNat 8 (r.pulseMax / 256),
        BitVec.ofNat 8 r.pulseMax] := by
  simp only [Settings.encode, enabled_byte, rearm_byte, auto_byte, byte1, byte2, List.cons_append, List.nil_append,
    List.append_assoc]

theorem Settings.codable_iff (r : Settings) : r.codable = true ↔
    (r.stepRate ≤ 255 ∧ r.settle ≤ 255 ∧ r.idleTimeout ≤ 255 ∧ r.sortDelay ≤ 255 ∧ r.ejectTimeout ≤ 255) ∧
      (r.manualPrecomp ≤ 255 ∧ r.sortWidth ≤ 65535 ∧ r.pulseMin ≤ 65535 ∧ r.pulseMax ≤ 65535) ∧
      r.periodMin ≤ 16777215 ∧ r.periodMax ≤ 16777215 := by
  simp only [Settings.codable, Bool.and_eq_true, decide_eq_true_eq, and_assoc]

/-- Settings that fit their bytes are read with their clamps if their limits are right, and refused if not (R157, R158). -/
theorem readSettings_encode {r : Settings} (fits : r.codable = true) :
    readSettings r.encode = if r.valid then some r.clamped else none := by
  obtain ⟨⟨step, settle, idle, delay, eject⟩, ⟨manual, width, pulseMin, pulseMax⟩, periodMin, periodMax⟩ :=
    r.codable_iff.mp fits
  obtain ⟨enabled, enabled_byte⟩ := yesNo_byte r.enabled
  obtain ⟨rearm, rearm_byte⟩ := yesNo_byte r.autoRearm
  obtain ⟨auto, auto_byte⟩ := yesNo_byte r.autoPrecomp
  generalize record : r.encode = rec
  rw [r.encode_eq enabled_byte rearm_byte auto_byte] at record
  have enabled_field : readYesNo (byteAt rec 0) = some r.enabled := by rw [← record]; exact readYesNo_iff.mpr enabled_byte
  have drive_field : readDriveType (byteAt rec 1) = some r.driveType := by rw [← record]; exact readDriveType_iff.mpr rfl
  have rearm_field : readYesNo (byteAt rec 4) = some r.autoRearm := by rw [← record]; exact readYesNo_iff.mpr rearm_byte
  have auto_field : readYesNo (byteAt rec 10) = some r.autoPrecomp := by rw [← record]; exact readYesNo_iff.mpr auto_byte
  have step_field : num1 rec 2 = r.stepRate := by rw [← record]; exact toNat_byte_of_le step
  have settle_field : num1 rec 3 = r.settle := by rw [← record]; exact toNat_byte_of_le settle
  have idle_field : num1 rec 5 = r.idleTimeout := by rw [← record]; exact toNat_byte_of_le idle
  have delay_field : num1 rec 6 = r.sortDelay := by rw [← record]; exact toNat_byte_of_le delay
  have width_field : num2 rec 7 = r.sortWidth := by rw [← record]; exact toNat_bytes_of_le width
  have eject_field : num1 rec 9 = r.ejectTimeout := by rw [← record]; exact toNat_byte_of_le eject
  have manual_field : num1 rec 11 = r.manualPrecomp := by rw [← record]; exact toNat_byte_of_le manual
  have periodMin_field : num3 rec 12 = r.periodMin := by rw [← record]; exact toNat_three_bytes_of_le periodMin
  have periodMax_field : num3 rec 15 = r.periodMax := by rw [← record]; exact toNat_three_bytes_of_le periodMax
  have pulseMin_field : num2 rec 18 = r.pulseMin := by rw [← record]; exact toNat_bytes_of_le pulseMin
  have pulseMax_field : num2 rec 20 = r.pulseMax := by rw [← record]; exact toNat_bytes_of_le pulseMax
  unfold readSettings
  simp only [enabled_field, drive_field, rearm_field, auto_field, step_field, settle_field, idle_field, delay_field,
    width_field, eject_field, manual_field, periodMin_field, periodMax_field, pulseMin_field, pulseMax_field]

theorem Settings.length_encode (r : Settings) : r.encode.length = 22 := by
  obtain ⟨enabled, enabled_byte⟩ := yesNo_byte r.enabled
  obtain ⟨rearm, rearm_byte⟩ := yesNo_byte r.autoRearm
  obtain ⟨auto, auto_byte⟩ := yesNo_byte r.autoPrecomp
  rw [r.encode_eq enabled_byte rearm_byte auto_byte]
  rfl

/-- A whole record that is read is one that R186 gives the settings it places (R157, R158). -/
theorem readSettings_sent {rec : List Byte} (length : rec.length = 22) {placed : Settings}
    (read : readSettings rec = some placed) : Settings.Sent rec placed := by
  unfold readSettings at read
  split at read
  case h_2 => cases read
  case h_1 enabled drive rearm auto read_enabled read_drive read_rearm read_auto =>
    dsimp only at read
    split at read
    case isFalse => cases read
    case isTrue valid =>
      cases read
      refine ⟨_, ?_, valid, ?_, rfl⟩
      · exact (Settings.codable_iff _).mpr
          ⟨⟨num1_le .., num1_le .., num1_le .., num1_le .., num1_le ..⟩, ⟨num1_le .., num2_le .., num2_le .., num2_le ..⟩,
            num3_le .., num3_le ..⟩
      · rw [Settings.encode_eq _ (readYesNo_iff.mp read_enabled) (readYesNo_iff.mp read_rearm) (readYesNo_iff.mp read_auto)]
        simp only [← readDriveType_iff.mp read_drive, ofNat_num1, ofNat_num2_high, ofNat_num2, byte3_num3]
        exact eq_map_byteAt length

theorem Settings.valid_iff (r : Settings) : r.valid = true ↔
    r.manualPrecomp ≤ 15 ∧ r.periodMin ≤ 1048575 ∧ r.periodMax ≤ 1048575 ∧ r.periodMin < r.periodMax ∧
      r.pulseMin < r.pulseMax := by
  simp only [Settings.valid, Bool.and_eq_true, decide_eq_true_eq, and_assoc]

theorem Settings.inRange_iff (r : Settings) : r.inRange = true ↔
    r.valid = true ∧ (2 ≤ r.stepRate ∧ r.stepRate ≤ 16) ∧ r.settle ≤ 50 ∧
      (r.idleTimeout = 0 ∨ 10 ≤ r.idleTimeout ∧ r.idleTimeout ≤ 240) ∧ r.sortDelay ≤ 255 ∧
      (10 ≤ r.sortWidth ∧ r.sortWidth ≤ 500) ∧ (2 ≤ r.ejectTimeout ∧ r.ejectTimeout ≤ 60) ∧ r.pulseMax ≤ 65535 := by
  simp only [Settings.inRange, Bool.and_eq_true, decide_eq_true_eq, and_assoc]

theorem Settings.codable_of_inRange {r : Settings} (range : r.inRange = true) : r.codable = true := by
  obtain ⟨valid, step, settle, idle, delay, width, eject, pulse⟩ := r.inRange_iff.mp range
  have limits := r.valid_iff.mp valid
  exact r.codable_iff.mpr ⟨by omega, by omega, by omega⟩

/-- Settings within the ranges of R62 are as the clamps leave them. -/
theorem Settings.clamped_of_inRange {r : Settings} (range : r.inRange = true) : r.clamped = r := by
  obtain ⟨-, ⟨step_least, step_most⟩, settle, idle, -, ⟨width_least, width_most⟩, ⟨eject_least, eject_most⟩, -⟩ :=
    r.inRange_iff.mp range
  have idle_kept : (if r.idleTimeout = 0 then 0 else clamp 10 240 r.idleTimeout) = r.idleTimeout := by
    unfold clamp
    split <;> omega
  unfold Settings.clamped
  rw [idle_kept, clamp, clamp, clamp, Nat.min_eq_right step_most, Nat.max_eq_right step_least, Nat.min_eq_right settle,
    Nat.min_eq_right width_most, Nat.max_eq_right width_least, Nat.min_eq_right eject_most, Nat.max_eq_right eject_least]

/-- Settles O24: record by record, by its bytes. -/
theorem recordsAreReadBackAsSent : Obligations.RecordsAreReadBackAsSent := by
  refine ⟨fun l valid => ?layout, fun p valid => ?patch, fun r range => ?settings,
    fun p boundary outer inner => ?precomp, fun tables j l valid entry reaches => ?job⟩
  case layout => rw [readLayoutRecord_encode (Layout.codable_of_valid valid), if_pos valid]
  case patch => rw [readPatchRecord_encode (Patch.codable_of_valid valid), if_pos (p.valid_iff.mp valid).1]
  case settings =>
    rw [readSettings_encode (Settings.codable_of_inRange range), if_pos (r.inRange_iff.mp range).1,
      Settings.clamped_of_inRange range]
  case precomp => rw [readPrecomp_encode boundary (by omega) (by omega), if_pos ⟨outer, inner⟩]
  case job =>
    simp only [Job.valid, Bool.and_eq_true, Bool.or_eq_true, beq_iff_eq, decide_eq_true_eq] at valid
    obtain ⟨⟨⟨⟨⟨factor, retries⟩, quota⟩, delay⟩, timeout_least, timeout⟩, mark⟩ := valid
    have usable : l.UsableAt j.stepFactor := factor.imp_right fun two => ⟨two, reaches two⟩
    rw [readJob_encode entry usable (by omega) quota (by omega) timeout (by omega), Job.clamped, Nat.min_eq_right retries,
      Nat.min_eq_right delay, Nat.max_eq_right timeout_least, Nat.min_eq_right mark]

end Sys2Proof.Machine
end

section
/-!
The TABLE-LOAD frames: taking one, a run of records over an indexed table, and the refusals before any record.
-/

namespace Sys2Proof.Machine

/-! ### The head TABLE-LOAD (R146 to R149) -/

section
variable {s : State} {table mode : Byte} {start count : Nat} {records : List Byte}

/-- A TABLE-LOAD at the head, with a report entry free, is acted on and leaves its entry. -/
theorem State.takeFrame_load (h : s.headIs 0x20 (tableLoadBody table mode start count records) 1)
    {mine : List Byte → Bool} (named : mine (tableLoadBody table mode start count records) = true)
    (act : List Byte → State → State) :
    s.takeFrame kindTableLoad mine act = (act (tableLoadBody table mode start count records) s).dropHead :=
  State.takeFrame_taken h (Frame.entriesNeeded_le_one _ (by decide : (0x20 : Byte) ≠ kindStatusQuery))
    (decide_eq_true (by simp [tableLoadBody, byte1] : 4 ≤ (tableLoadBody table mode start count records).length)) named act

theorem loadIs_tableLoadBody : loadIs table mode (tableLoadBody table mode start count records) = true := by
  rw [loadIs, Bool.and_eq_true, beq_iff_eq, beq_iff_eq]
  exact ⟨rfl, rfl⟩

theorem num1_start (h : start ≤ 255) : num1 (tableLoadBody table mode start count records) 2 = start := toNat_byte_of_le h

theorem num1_count (h : count ≤ 255) : num1 (tableLoadBody table mode start count records) 3 = count := toNat_byte_of_le h

/-- What a load is answered with follows the run of its records (R149). -/
theorem State.loadRecords_answered {step : Nat → List Byte → State → RecordResult} {t : State}
    {stop : Option (Nat × TableErrorReason)} (base : Nat) (counted : count ≤ 255)
    (run : runRecords step count 0 records s = (t, stop)) (free : 0 < t.freeEntries) :
    (s.loadRecords base step (tableLoadBody table mode start count records)).dropHead =
      t.answered (stop.toList.map fun x => .tableError table (base + x.1) x.2 x.1) := by
  have records_eq : (tableLoadBody table mode start count records).drop 4 = records := rfl
  have table_eq : byteAt (tableLoadBody table mode start count records) 0 = table := rfl
  unfold State.loadRecords
  rw [num1_count counted, records_eq, run, table_eq]
  cases stop with
  | none => exact State.dropHead_eq t
  | some x => exact State.place_dropHead free _

/-- A load that stops at its first record changes nothing. -/
theorem State.loadRecords_stopped {step : Nat → List Byte → State → RecordResult} {reason : TableErrorReason} (base : Nat)
    (some_record : 1 ≤ count) (counted : count ≤ 255) (free : 0 < s.freeEntries) (stop : step 0 records s = .stop reason) :
    (s.loadRecords base step (tableLoadBody table mode start count records)).dropHead =
      s.answered [.tableError table base reason 0] := by
  obtain ⟨k, rfl⟩ := Nat.exists_eq_add_of_le' some_record
  rw [State.loadRecords_answered base counted (runRecords_of_stop stop) free]
  rfl

/-- A load that is stopped before any record (R146, R149). -/
theorem State.loadStopped_answered (within : start ≤ 255) (free : 0 < s.freeEntries) (reason : TableErrorReason) :
    (s.loadStopped (tableLoadBody table mode start count records) reason).dropHead =
      s.answered [.tableError table (if table = tablePool then 0 else start) reason 0] := by
  have table_eq : byteAt (tableLoadBody table mode start count records) 0 = table := rfl
  rw [State.loadStopped, num1_start within, table_eq, State.place_dropHead free]

end

/-! ### The table and the mode (R146) -/

theorem modeTaken_eq_false {table mode : Byte} (h : table ∉ [0x01, 0x02, 0x03, 0x04, 0x05] ∨
      table ∈ [0x01, 0x04, 0x05] ∧ mode ≠ 0x01 ∨ table = 0x02 ∧ mode ≠ 0x01 ∧ mode ≠ 0x03 ∨
      table = 0x03 ∧ mode ≠ 0x02 ∧ mode ≠ 0x03) : modeTaken table mode = false := by
  refine Bool.eq_false_iff.mpr fun taken => ?_
  simp only [modeTaken, Bool.or_eq_true, Bool.and_eq_true, beq_iff_eq] at taken
  rcases taken with (((⟨rfl, rfl⟩ | ⟨rfl, rfl | rfl⟩) | ⟨rfl, rfl | rfl⟩) | ⟨rfl, rfl⟩) | ⟨rfl, rfl⟩ <;>
    exact absurd h (by decide)

theorem exec_tableLoadRefused {s : State} {table mode start count : Byte} {records : List Byte}
    (head : s.headIs 0x20 (table :: mode :: start :: count :: records) 1) (refused : modeTaken table mode = false) :
    exec .tableLoadRefused s = .next (s.answered
      [.tableError table (if table = tablePool then 0 else start.toNat) (if tableNamed table then .mode else .value) 0]) := by
  have body : table :: mode :: start :: count :: records = tableLoadBody table mode start.toNat count.toNat records := by
    simp [tableLoadBody, byte1]
  rw [body] at head
  have named : (!modeTaken (byteAt (tableLoadBody table mode start.toNat count.toNat records) 0)
      (byteAt (tableLoadBody table mode start.toNat count.toNat records) 1)) = true := by
    rw [Bool.not_eq_true']; exact refused
  exact congrArg Host.Outcome.next ((State.takeFrame_load head (mine := fun body => !modeTaken (byteAt body 0) (byteAt body 1)) named _).trans
    (State.loadStopped_answered (Nat.le_of_lt_succ start.isLt) head.2 _))

/-- Settles O33: an unknown table is VALUE, and a mode that its table does not take is MODE. -/
theorem unknownLoadsAreRefused : Obligations.UnknownLoadsAreRefused := by
  intro s table mode start count records head
  refine ⟨fun unknown => ?value, fun wrong => ?mode, fun pool append clear => ?pool⟩
  case value =>
    have unnamed : tableNamed table = false := Bool.eq_false_iff.mpr fun named => by
      simp only [tableNamed, Bool.or_eq_true, beq_iff_eq] at named
      rcases named with (((rfl | rfl) | rfl) | rfl) | rfl <;> exact absurd unknown (by decide)
    have no_pool : table ≠ tablePool := fun h => unknown (by rw [h]; decide)
    rw [exec_tableLoadRefused head (modeTaken_eq_false (.inl unknown)), if_neg no_pool, unnamed]
    rfl
  case mode =>
    have named : tableNamed table = true ∧ table ≠ tablePool := by
      rcases wrong with ⟨table_in, -⟩ | ⟨rfl, -⟩
      · exact (by decide : ∀ t ∈ ([0x01, 0x04, 0x05] : List Byte), tableNamed t = true ∧ t ≠ tablePool) table table_in
      · decide
    rw [exec_tableLoadRefused head (modeTaken_eq_false (.inr (wrong.imp_right .inl))), if_neg named.2, if_pos named.1]
  case pool =>
    rw [exec_tableLoadRefused head (modeTaken_eq_false (.inr (.inr (.inr ⟨pool, append, clear⟩)))), if_pos pool, pool]
    rfl

end Sys2Proof.Machine
end

section
/-!
A run of records over an indexed table: the good records fill the entries from the start index on, and the run stops at
the first that fails (R147 to R149).
-/

namespace Sys2Proof.Machine

/-! ### The entries that a run fills -/

variable {α β : Type} {n : Nat}

/-- The entries from `i` on are replaced, each by what its record makes of it. -/
def fillRun (act : α → β → β) : Vector β n → Nat → List α → Vector β n
  | v, _, [] => v
  | v, i, e :: es => fillRun act (if h : i < n then v.set i (act e v[i]) else v) (i + 1) es

theorem getElem_fillRun (act : α → β → β) (v : Vector β n) (i : Nat) (es : List α) (k : Nat) (hk : k < n) :
    (fillRun act v i es)[k] = if h : i ≤ k ∧ k - i < es.length then act es[k - i] v[k] else v[k] := by
  induction es generalizing v i with
  | nil => rw [fillRun, dif_neg (by simp)]
  | cons e es ih =>
    rw [fillRun]
    generalize hw : (if h : i < n then v.set i (act e v[i]) else v) = w
    have kept : k ≠ i → w[k] = v[k] := fun apart => by
      rw [← hw]
      split
      · exact Vector.getElem_set_ne _ _ (Ne.symm apart)
      · rfl
    rw [ih]
    rcases Nat.lt_trichotomy k i with before | rfl | after
    · rw [dif_neg (by omega), dif_neg (by omega), kept (by omega)]
    · have put : w[k] = act e v[k] := by rw [← hw, dif_pos hk, Vector.getElem_set_self]
      rw [dif_neg (by omega), dif_pos ⟨Nat.le_refl k, by simp⟩, put]
      simp
    · by_cases inside : k - i < (e :: es).length
      · have index : k - i = k - (i + 1) + 1 := by omega
        rw [dif_pos ⟨by omega, by simp only [List.length_cons] at inside; omega⟩, dif_pos ⟨by omega, inside⟩,
          kept (by omega)]
        simp only [index, List.getElem_cons_succ]
      · rw [dif_neg (by simp only [List.length_cons] at inside; omega), dif_neg (by omega), kept (by omega)]

/-! ### The run -/

/-- What one step of an indexed table does with the first `room` records, and with the one behind them (R147, R148). -/
structure IndexedStep (step : Nat → List Byte → State → RecordResult) (Sent : List Byte → α → Prop)
    (size : List Byte → Nat) (put : Nat → α → State → State) (Inv : State → Prop) (room : Nat)
    (reason : TableErrorReason) : Prop where
  applies : ∀ (j : Nat) (record rest : List Byte) (e : α) (s : State), j < room → Inv s → Sent record e →
    step j (record ++ rest) s = .applied (put j e s) rest ∧ Inv (put j e s)
  cut     : ∀ (j : Nat) (bs : List Byte) (s : State), j < room → Inv s → bs.length < size bs →
    step j bs s = .stop .truncatedRecord
  bad     : ∀ (j : Nat) (bs : List Byte) (s : State), j < room → Inv s → size bs ≤ bs.length →
    (∀ e, ¬Sent (bs.take (size bs)) e) → step j bs s = .stop .value
  full    : ∀ (bs : List Byte) (s : State), Inv s → step room bs s = .stop reason

namespace IndexedStep

variable {step : Nat → List Byte → State → RecordResult} {Sent : List Byte → α → Prop} {size : List Byte → Nat}
  {put : Nat → α → State → State} {Inv : State → Prop} {room : Nat} {reason : TableErrorReason} {s : State}
  {records : List (List Byte)} {es : List α} {more : Nat} {tail : List Byte} {fault : Option TableErrorReason}

/-- The record that finds no room stops the run. -/
theorem run_full (h : IndexedStep step Sent size put Inv room reason) (inv : Inv s) {k : Nat} (some_record : 1 ≤ k)
    (bs : List Byte) : runRecords step k room bs s = (s, some (room, reason)) := by
  obtain ⟨k, rfl⟩ := Nat.exists_eq_add_of_le' some_record
  exact runRecords_of_stop (h.full bs s inv)

/-- What comes behind the good records ends the run, while there is room. -/
theorem run_fault (h : IndexedStep step Sent size put Inv room reason) (inv : Inv s) {j : Nat} (j_lt : j < room)
    (ends : LoadEnds Sent size tail more fault) :
    runRecords step more j tail s = (s, fault.map fun r => (j, r)) := by
  match fault, ends with
  | none, none_left => rw [none_left]; rfl
  | some .truncatedRecord, ⟨some_left, short⟩ =>
    obtain ⟨k, rfl⟩ := Nat.exists_eq_add_of_le' some_left
    exact runRecords_of_stop (h.cut j tail s j_lt inv short)
  | some .value, ⟨some_left, whole, unsent⟩ =>
    obtain ⟨k, rfl⟩ := Nat.exists_eq_add_of_le' some_left
    exact runRecords_of_stop (h.bad j tail s j_lt inv whole unsent)

/-- The whole run: the records within the room are applied, and the run stops where the first fails. -/
theorem run (h : IndexedStep step Sent size put Inv room reason) (inv : Inv s) (length : records.length = es.length)
    (good : ∀ r ∈ records.zip es, Sent r.1 r.2) (ends : LoadEnds Sent size tail more fault) :
    runRecords step (records.length + more) 0 (records.flatten ++ tail) s =
        (putRun put 0 (es.take room) s,
          if es.length < room ∨ es.length = room ∧ fault = none then fault.map fun r => (es.length, r)
          else some (room, reason)) ∧
      Inv (putRun put 0 (es.take room) s) := by
  by_cases fits : es.length ≤ room
  · obtain ⟨run, kept⟩ := runRecords_good h.applies records es 0 more tail s length good (by omega) inv
    rw [List.take_of_length_le fits, run, Nat.zero_add, length]
    refine ⟨?_, kept⟩
    rcases Nat.lt_or_eq_of_le fits with lt | eq
    · rw [h.run_fault kept lt ends, if_pos (.inl lt)]
    · cases fault with
      | none =>
        have none_left : more = 0 := ends
        rw [none_left, if_pos (.inr ⟨eq, rfl⟩)]
        rfl
      | some r =>
        have some_left : 1 ≤ more := by
          match r, ends with
          | .truncatedRecord, ⟨some_left, _⟩ => exact some_left
          | .value, ⟨some_left, _⟩ => exact some_left
        rw [eq, h.run_full kept some_left, if_neg (by simp)]
  · have split_records : records = records.take room ++ records.drop room := (List.take_append_drop room records).symm
    have front : (records.take room).length = room := by rw [List.length_take]; omega
    have shorter : ∀ r ∈ (records.take room).zip (es.take room), Sent r.1 r.2 := fun r mem =>
      good r (by rw [List.zip, ← List.take_zipWith] at mem; exact List.mem_of_mem_take mem)
    obtain ⟨run, kept⟩ := runRecords_good h.applies (records.take room) (es.take room) 0
      (records.length - room + more) ((records.drop room).flatten ++ tail) s (by rw [front, List.length_take]; omega)
      shorter (by omega) inv
    refine ⟨?_, kept⟩
    have count : records.length + more = (records.take room).length + (records.length - room + more) := by omega
    have bytes : records.flatten ++ tail = (records.take room).flatten ++ ((records.drop room).flatten ++ tail) := by
      rw [← List.append_assoc, ← List.flatten_append, ← split_records]
    rw [count, bytes, run, front, Nat.zero_add, h.run_full kept (by omega), if_neg (by omega)]

end IndexedStep

/-- The whole load: the entries are put, and the load is answered as R149 has it. -/
theorem IndexedStep.loads {step : Nat → List Byte → State → RecordResult} {Sent : List Byte → α → Prop}
    {size : List Byte → Nat} {put : Nat → α → State → State} {Inv : State → Prop} {reason : TableErrorReason}
    {s : State} {es : List α} {fault : Option TableErrorReason} {table : Byte} {start stop : Nat}
    (h : IndexedStep step Sent size put Inv (stop - start) reason) (inv : Inv s)
    (free : ∀ t, Inv t → t.freeEntries = s.freeEntries) (load : s.LoadCarries table Sent size start es fault) :
    ∃ (count : Nat) (records : List Byte), s.headIs 0x20 (tableLoadBody table 0x01 start count records) 1 ∧ start ≤ 255 ∧
      (s.loadRecords start step (tableLoadBody table 0x01 start count records)).dropHead =
        (putRun put 0 (es.take (stop - start)) s).answered (loadReport table start es.length stop reason fault) := by
  obtain ⟨records, more, tail, head, within, counted, length, good, ends⟩ := load
  obtain ⟨run, kept⟩ := h.run inv length good ends
  refine ⟨_, _, head, within, ?_⟩
  rw [State.loadRecords_answered start counted run (by rw [free _ kept]; exact head.2)]
  refine congrArg _ ?_
  unfold loadReport
  split
  · cases fault <;> rfl
  · rw [show max start stop = start + (stop - start) by omega]
    rfl

end Sys2Proof.Machine
end

section
/-!
The LAYOUT and PATCH loads.
-/

namespace Sys2Proof.Machine

/-! ### A record at the front of a body -/

theorem byteAt_append {bs : List Byte} {i : Nat} (h : i < bs.length) (rest : List Byte) : byteAt (bs ++ rest) i = byteAt bs i := by
  simp [byteAt, List.getElem?_append_left h]

theorem byteAt_take {bs : List Byte} {i k : Nat} (h : i < k) : byteAt (bs.take k) i = byteAt bs i := by
  simp [byteAt, h]

theorem num1_append {bs : List Byte} {i : Nat} (h : i < bs.length) (rest : List Byte) : num1 (bs ++ rest) i = num1 bs i := by
  rw [num1, byteAt_append h, num1]

theorem num1_take {bs : List Byte} {i k : Nat} (h : i < k) : num1 (bs.take k) i = num1 bs i := by
  rw [num1, byteAt_take h, num1]

/-- The entries that a run fills when it stops before the entry `stop`. -/
theorem getElem_fillRun_take {α β : Type} {n : Nat} (act : α → β → β) (v : Vector β n) (start stop : Nat) (es : List α) (k : Nat)
    (hk : k < n) : (fillRun act v start (es.take (stop - start)))[k] =
      if h : start ≤ k ∧ k - start < es.length ∧ k < stop then act es[k - start] v[k] else v[k] := by
  rw [getElem_fillRun]
  by_cases inside : start ≤ k ∧ k - start < es.length ∧ k < stop
  · rw [dif_pos inside, dif_pos ⟨inside.1, by rw [List.length_take]; omega⟩, List.getElem_take]
  · rw [dif_neg inside, dif_neg (by rw [List.length_take]; omega)]

/-! ### LAYOUT records -/

theorem num1_layout_count {l : Layout} (few : l.n ≤ 255) : num1 l.encode 4 = l.n := by
  rw [l.encode_eq]
  exact toNat_byte_of_le few

theorem Layout.Sent.length {record : List Byte} {entry : Option Layout} (sent : Layout.Sent record entry) :
    record.length = 17 + 2 * num1 record 4 := by
  cases entry with
  | none => exact sent.2
  | some l =>
    obtain ⟨valid, rfl⟩ := sent
    have count := (l.valid_iff.mp valid).2.2.2.1
    rw [l.length_encode, num1_layout_count (by omega)]

theorem Layout.Sent.read {record : List Byte} {entry : Option Layout} (sent : Layout.Sent record entry) :
    readLayoutRecord record = some entry := by
  cases entry with
  | none =>
    obtain ⟨flag, length⟩ := sent
    rw [head?_eq_byteAt (by omega), Option.some_inj] at flag
    rw [readLayoutRecord, if_pos flag]
  | some l =>
    obtain ⟨valid, rfl⟩ := sent
    rw [readLayoutRecord_encode (Layout.codable_of_valid valid), if_pos valid]

/-- A layout entry is replaced, if the table has it. -/
def State.putLayout (s : State) (i : Nat) (entry : Option Layout) : State :=
  s.withTables
    { s.tables with layouts := if h : i < 8 then s.tables.layouts.set i entry else s.tables.layouts }

theorem putRun_putLayout (start j : Nat) (es : List (Option Layout)) (s : State) :
    putRun (fun j e s => s.putLayout (start + j) e) j es s =
      s.withTables { s.tables with layouts := fillRun (fun e _ => e) s.tables.layouts (start + j) es } := by
  induction es generalizing j s with
  | nil => rfl
  | cons e es ih => rw [putRun, ih]; rfl

section
variable {start j : Nat} {bs : List Byte} {s : State}

theorem layoutStep_index (h : 8 ≤ start + j) : layoutStep start j bs s = .stop .index := dif_neg (by omega)

theorem layoutStep_inUse (h : start + j < 8) (used : s.passOpen = true ∧ s.job.layoutIndex.val = start + j) :
    layoutStep start j bs s = .stop .inUse := (dif_pos h).trans (if_pos used)

variable (h : start + j < 8) (free : ¬(s.passOpen = true ∧ s.job.layoutIndex.val = start + j))
include h free

theorem layoutStep_truncated (short : bs.length < 5 ∨ bs.length < 17 + 2 * num1 bs 4) :
    layoutStep start j bs s = .stop .truncatedRecord := (dif_pos h).trans ((if_neg free).trans (if_pos short))

theorem layoutStep_value (whole : 17 + 2 * num1 bs 4 ≤ bs.length)
    (unread : readLayoutRecord (bs.take (17 + 2 * num1 bs 4)) = none) : layoutStep start j bs s = .stop .value := by
  refine (dif_pos h).trans ((if_neg free).trans ((if_neg (by omega)).trans ?_))
  rw [unread]

theorem layoutStep_applied {record rest : List Byte} {entry : Option Layout} (sent : Layout.Sent record entry) :
    layoutStep start j (record ++ rest) s = .applied (s.putLayout (start + j) entry) rest := by
  have length := sent.length
  have count : num1 (record ++ rest) 4 = num1 record 4 := num1_append (by omega) rest
  refine (dif_pos h).trans ((if_neg free).trans ((if_neg (by rw [count, List.length_append]; omega)).trans ?_))
  rw [count, ← length, List.take_left, List.drop_left, sent.read, State.putLayout, dif_pos h]

end

/-- Where a LAYOUT load stops: at the layout of the open pass, or at the table's end (R147, R150). -/
theorem layoutStep_indexed (s : State) {start stop : Nat} {reason : TableErrorReason}
    (stops : if s.passOpen = true ∧ start ≤ s.job.layoutIndex then stop = s.job.layoutIndex ∧ reason = .inUse
      else stop = 8 ∧ reason = .index) :
    IndexedStep (layoutStep start) Layout.Sent (fun r => 17 + 2 * num1 r 4) (fun j e s => s.putLayout (start + j) e)
      (fun t => t.control = s.control ∧ t.reports = s.reports) (stop - start) reason := by
  have passOpen : ∀ {t : State}, t.control = s.control → t.passOpen = s.passOpen := fun h => by
    rw [State.passOpen, h]; rfl
  have job : ∀ {t : State}, t.control = s.control → t.job = s.job := fun h => State.job_congr (congrArg PassControl.job h)
  have room : ∀ {j : Nat} {t : State}, j < stop - start → t.control = s.control →
      start + j < 8 ∧ ¬(t.passOpen = true ∧ t.job.layoutIndex.val = start + j) := by
    intro j t lt control
    rw [passOpen control, job control]
    split at stops
    case isTrue used =>
      obtain ⟨rfl, -⟩ := stops
      exact ⟨by omega, fun h => by omega⟩
    case isFalse unused =>
      obtain ⟨rfl, -⟩ := stops
      exact ⟨by omega, fun h => unused ⟨h.1, by omega⟩⟩
  refine ⟨fun j record rest e t lt kept sent => ⟨layoutStep_applied (room lt kept.1).1 (room lt kept.1).2 sent, kept⟩,
    fun j bs t lt kept short => layoutStep_truncated (room lt kept.1).1 (room lt kept.1).2 (.inr short),
    fun j bs t lt kept whole unsent => layoutStep_value (room lt kept.1).1 (room lt kept.1).2 whole ?_,
    fun bs t kept => ?_⟩
  · cases read : readLayoutRecord (bs.take (17 + 2 * num1 bs 4)) with
    | none => rfl
    | some entry =>
      refine absurd (readLayoutRecord_sent ?_ read) (unsent entry)
      rw [num1_take (by omega), List.length_take, Nat.min_eq_left whole]
  · split at stops
    case isTrue used =>
      obtain ⟨rfl, rfl⟩ := stops
      exact layoutStep_inUse (by omega) ⟨by rw [passOpen kept.1]; exact used.1, by rw [job kept.1]; omega⟩
    case isFalse =>
      obtain ⟨rfl, rfl⟩ := stops
      exact layoutStep_index (by omega)

theorem exec_layoutWrite {s : State} {start count : Nat} {records : List Byte}
    (head : s.headIs 0x20 (tableLoadBody 0x01 0x01 start count records) 1) (within : start ≤ 255) :
    exec .layoutWrite s =
      .next (s.loadRecords start (layoutStep start) (tableLoadBody 0x01 0x01 start count records)).dropHead := by
  refine congrArg Host.Outcome.next ((State.takeFrame_load head loadIs_tableLoadBody _).trans ?_)
  rw [num1_start within]

/-- Settles O25: the run of LAYOUT records over the entries before the one where it stops. -/
theorem layoutRecordReplacesItsEntry : Obligations.LayoutRecordReplacesItsEntry := by
  intro s start stop reason es fault load stops
  obtain ⟨count, records, head, within, loads⟩ := (layoutStep_indexed s stops).loads ⟨rfl, rfl⟩
    (fun t kept => by rw [State.freeEntries, kept.2]; rfl) load
  refine ⟨{ s.tables with layouts := fillRun (fun e _ => e) s.tables.layouts start (es.take (stop - start)) }, ?_, rfl, rfl, rfl,
    fun k => getElem_fillRun_take (fun e _ => e) s.tables.layouts start stop es k k.isLt⟩
  rw [exec_layoutWrite head within, loads, putRun_putLayout]
  rfl

theorem byteAt_sectorBytes_kind {es : List SectorEntry} {k : Nat} (h : k < es.length) :
    byteAt (sectorBytes es) (2 * k + 1) = BitVec.ofNat 8 es[k].kind.code := by
  induction es generalizing k with
  | nil => cases h
  | cons e es ih =>
    cases k with
    | zero => rfl
    | succ k => exact ih (Nat.lt_of_succ_lt_succ h)

theorem Density.code_le (density : Density) : density.code ≤ 1 := by cases density <;> decide
theorem VerifyLevel.code_le (level : VerifyLevel) : level.code ≤ 2 := by cases level <;> decide
theorem MarkKind.code_le (kind : MarkKind) : kind.code ≤ 1 := by cases kind <;> decide
theorem PatchFunction.code_le (function : PatchFunction) : function.code ≤ 3 := by cases function <;> decide

/-- The codes that a layout record holds. -/
theorem Layout.encode_codes (l : Layout) : num1 l.encode 0 = 0 ∧ num1 l.encode 1 ≤ 1 ∧ num1 l.encode 16 ≤ 2 ∧
    ∀ k < l.n, num1 l.encode (18 + 2 * k) ≤ 1 := by
  have small : ∀ {n m : Nat}, n ≤ m → (BitVec.ofNat 8 n).toNat ≤ m := fun h =>
    Nat.le_trans (BitVec.toNat_ofNat _ _ ▸ Nat.mod_le _ _) h
  rw [l.encode_eq]
  refine ⟨rfl, small l.density.code_le, small l.verify.code_le, fun k lt => ?_⟩
  have place : 18 + 2 * k = 2 * k + 1 + 17 := by omega
  rw [place]
  exact Nat.le_trans (Nat.le_of_eq (congrArg BitVec.toNat (byteAt_sectorBytes_kind lt))) (small (MarkKind.code_le _))

/-- A record with a flag, a density, a verify level or a mark kind that its code does not name is no layout record. -/
theorem readLayoutRecord_unnamed {rec : List Byte} (length : rec.length = 17 + 2 * num1 rec 4)
    (unnamed : 1 < num1 rec 0 ∨ num1 rec 0 = 0 ∧ (1 < num1 rec 1 ∨ 2 < num1 rec 16 ∨
      ∃ k < num1 rec 4, 1 < num1 rec (18 + 2 * k))) : readLayoutRecord rec = none := by
  cases read : readLayoutRecord rec with
  | none => rfl
  | some entry =>
    exfalso
    have sent := readLayoutRecord_sent length read
    cases entry with
    | none =>
      have flag : num1 rec 0 = 1 := by
        have head := sent.1
        rw [head?_eq_byteAt (by omega), Option.some_inj] at head
        rw [num1, head]
        rfl
      omega
    | some l =>
      obtain ⟨valid, rfl⟩ := sent
      obtain ⟨flag, density, verify, kinds⟩ := l.encode_codes
      have count := l.length_encode
      rcases unnamed with wrong | ⟨-, wrong | wrong | ⟨k, lt, wrong⟩⟩
      · omega
      · omega
      · omega
      · exact absurd (kinds k (by omega)) (Nat.not_le.mpr wrong)

/-- Settles O26: the first of the four refusals that applies to the first record. -/
theorem layoutRecordIsRefused : Obligations.LayoutRecordIsRefused := by
  refine ⟨fun s start count records head above within some_record counted => ?index,
    fun s i count records head some_record counted => ⟨fun opened same => ?inUse, fun free =>
      ⟨fun short => ?truncated, fun l rest fits invalid bytes => ?value, fun whole unnamed => ?unnamed⟩⟩⟩
  case index =>
    rw [exec_layoutWrite head within,
      State.loadRecords_stopped start some_record counted head.2 (layoutStep_index (by omega))]
  all_goals
    have index := i.isLt
    rw [exec_layoutWrite head (by omega)]
    refine congrArg Host.Outcome.next (State.loadRecords_stopped i some_record counted head.2 ?_)
  case inUse => exact layoutStep_inUse (by omega) ⟨opened, congrArg Fin.val same⟩
  all_goals
    have unused : ¬(s.passOpen = true ∧ s.job.layoutIndex.val = i.val + 0) := fun h => free ⟨h.1, Fin.ext h.2⟩
  case truncated => exact layoutStep_truncated (by omega) unused short
  case value =>
    have few : l.n ≤ 255 := by
      simp only [Layout.codable, Bool.and_eq_true, decide_eq_true_eq] at fits
      omega
    have count_eq : num1 records 4 = l.n := by
      rw [bytes, num1_append (by rw [l.length_encode]; omega), num1_layout_count few]
    refine layoutStep_value (by omega) unused (by rw [count_eq, bytes, List.length_append, l.length_encode]; omega) ?_
    rw [count_eq, bytes, ← l.length_encode, List.take_left, readLayoutRecord_encode fits, invalid]
    rfl
  case unnamed =>
    refine layoutStep_value (by omega) unused whole (readLayoutRecord_unnamed ?_ ?_)
    · rw [num1_take (by omega), List.length_take, Nat.min_eq_left whole]
    · rw [num1_take (by omega), num1_take (by omega), num1_take (by omega), num1_take (by omega)]
      refine unnamed.imp_right (And.imp_right (Or.imp_right (Or.imp_right ?_)))
      rintro ⟨k, lt, wrong⟩
      exact ⟨k, lt, by rw [num1_take (by omega)]; exact wrong⟩

end Sys2Proof.Machine
end

section
/-!
The PATCH loads.
-/

namespace Sys2Proof.Machine

/-! ### PATCH records -/

theorem Patch.Sent.length {record : List Byte} {entry : Option Patch} (sent : Patch.Sent record entry) :
    record.length = 26 := by
  cases entry with
  | none => exact sent.2
  | some p =>
    obtain ⟨valid, rfl⟩ := sent
    exact Patch.length_encode (p.valid_iff.mp valid).2

theorem Patch.Sent.read {record : List Byte} {entry : Option Patch} (sent : Patch.Sent record entry) :
    readPatchRecord record = some entry := by
  cases entry with
  | none =>
    obtain ⟨flag, length⟩ := sent
    rw [head?_eq_byteAt (by omega), Option.some_inj] at flag
    rw [readPatchRecord, if_pos flag]
  | some p =>
    obtain ⟨valid, rfl⟩ := sent
    rw [readPatchRecord_encode (Patch.codable_of_valid valid), if_pos (p.valid_iff.mp valid).1]

/-- A patch entry is replaced, if the table has it. -/
def State.putPatch (s : State) (i : Nat) (entry : Option Patch) : State :=
  s.withTables
    { s.tables with patches := if h : i < 32 then s.tables.patches.set i entry else s.tables.patches }

theorem putRun_putPatch (start j : Nat) (es : List (Option Patch)) (s : State) :
    putRun (fun j e s => s.putPatch (start + j) e) j es s =
      s.withTables { s.tables with patches := fillRun (fun e _ => e) s.tables.patches (start + j) es } := by
  induction es generalizing j s with
  | nil => rfl
  | cons e es ih => rw [putRun, ih]; rfl

section
variable {start j : Nat} {bs : List Byte} {s : State}

theorem patchStep_index (h : 32 ≤ start + j) : patchStep start j bs s = .stop .index := dif_neg (by omega)

variable (h : start + j < 32)
include h

theorem patchStep_truncated (short : bs.length < 26) : patchStep start j bs s = .stop .truncatedRecord :=
  (dif_pos h).trans (if_pos short)

theorem patchStep_value (whole : 26 ≤ bs.length) (unread : readPatchRecord (bs.take 26) = none) :
    patchStep start j bs s = .stop .value := by
  refine (dif_pos h).trans ((if_neg (by omega)).trans ?_)
  rw [unread]

theorem patchStep_applied {record rest : List Byte} {entry : Option Patch} (sent : Patch.Sent record entry) :
    patchStep start j (record ++ rest) s = .applied (s.putPatch (start + j) entry) rest := by
  have length := sent.length
  refine (dif_pos h).trans ((if_neg (by rw [List.length_append]; omega)).trans ?_)
  rw [← length, List.take_left, List.drop_left, sent.read, State.putPatch, dif_pos h]

end

theorem patchStep_indexed (s : State) (start : Nat) :
    IndexedStep (patchStep start) Patch.Sent (fun _ => 26) (fun j e s => s.putPatch (start + j) e)
      (fun t => t.reports = s.reports) (32 - start) .index := by
  refine ⟨fun j record rest e t lt kept sent => ⟨patchStep_applied (by omega) sent, kept⟩,
    fun j bs t lt kept short => patchStep_truncated (by omega) short,
    fun j bs t lt kept whole unsent => patchStep_value (by omega) whole ?_,
    fun bs t kept => patchStep_index (by omega)⟩
  cases read : readPatchRecord (bs.take 26) with
  | none => rfl
  | some entry =>
    exact absurd (readPatchRecord_sent (by rw [List.length_take, Nat.min_eq_left whole]) read) (unsent entry)

section
variable {s : State} {start count : Nat} {records : List Byte}

theorem exec_patchWrite (head : s.headIs 0x20 (tableLoadBody 0x02 0x01 start count records) 1) (within : start ≤ 255)
    (closed : s.passOpen = false) : exec .patchWrite s =
      .next (s.loadRecords start (patchStep start) (tableLoadBody 0x02 0x01 start count records)).dropHead := by
  refine congrArg Host.Outcome.next ((State.takeFrame_load head loadIs_tableLoadBody _).trans ?_)
  rw [closed, num1_start within]
  rfl

theorem exec_patchWrite_open (head : s.headIs 0x20 (tableLoadBody 0x02 0x01 start count records) 1) (within : start ≤ 255)
    (opened : s.passOpen = true) : exec .patchWrite s = .next (s.answered [.tableError 0x02 start .inUse 0]) := by
  refine congrArg Host.Outcome.next ((State.takeFrame_load head loadIs_tableLoadBody _).trans ?_)
  rw [if_pos opened, State.loadStopped_answered within head.2]
  rfl

theorem exec_patchClear (head : s.headIs 0x20 (tableLoadBody 0x02 0x03 start count records) 1)
    (closed : s.passOpen = false) : exec .patchClear s = .next
      { s.answered [] with tables := { s.tables with patches := Vector.replicate 32 none } } := by
  refine congrArg Host.Outcome.next ((State.takeFrame_load head loadIs_tableLoadBody _).trans ?_)
  rw [if_neg (by rw [closed]; nofun), State.dropHead_eq]
  rfl

theorem exec_patchClear_open (head : s.headIs 0x20 (tableLoadBody 0x02 0x03 start count records) 1) (within : start ≤ 255)
    (opened : s.passOpen = true) : exec .patchClear s = .next (s.answered [.tableError 0x02 start .inUse 0]) := by
  refine congrArg Host.Outcome.next ((State.takeFrame_load head loadIs_tableLoadBody _).trans ?_)
  rw [if_pos opened, State.loadStopped_answered within head.2]
  rfl

end

/-- Settles O27: the run of PATCH records to the end of the table. -/
theorem patchRunFillsItsEntries : Obligations.PatchRunFillsItsEntries := by
  intro s start es fault load closed
  obtain ⟨count, records, head, within, loads⟩ := (patchStep_indexed s start).loads (stop := 32) rfl
    (fun t kept => by rw [State.freeEntries, kept]; rfl) load
  refine ⟨{ s.tables with patches := fillRun (fun e _ => e) s.tables.patches start (es.take (32 - start)) }, ?_, rfl, rfl, rfl,
    fun k => ?_⟩
  · rw [exec_patchWrite head within closed, loads, putRun_putPatch]
    rfl
  · refine (getElem_fillRun_take (fun e _ => e) s.tables.patches start 32 es k k.isLt).trans ?_
    simp only [k.isLt, and_true]
    rfl

/-- The codes that a patch record holds, source and form a pair among them. -/
theorem Patch.encode_codes (p : Patch) : num1 p.encode 0 = 1 ∧ num1 p.encode 8 ≤ 3 ∧
    (num1 p.encode 6 ∈ [0, 3] ∧ num1 p.encode 7 = 0 ∨ num1 p.encode 6 ∈ [1, 2] ∧ num1 p.encode 7 ∈ [1, 2, 3]) := by
  obtain ⟨source, form, pair⟩ := p.source.encode_pair
  rw [p.encode_eq pair]
  have function := p.function.code_le
  refine ⟨rfl, Nat.le_trans (Nat.le_of_eq (toNat_byte_of_le (by omega))) function, ?_⟩
  change source.toNat ∈ [0, 3] ∧ form.toNat = 0 ∨ source.toNat ∈ [1, 2] ∧ form.toNat ∈ [1, 2, 3]
  cases src : p.source with
  | serial | constant =>
    rw [src] at pair
    cases pair
    decide
  | copyNumber f | channelNumber f =>
    rw [src] at pair
    cases pair
    cases f <;> decide

/-- A record with a state, a function or a pair of source and form that names no value is no patch record. -/
theorem readPatchRecord_unnamed {rec : List Byte} (length : rec.length = 26)
    (unnamed : 1 < num1 rec 0 ∨ num1 rec 0 = 1 ∧ (3 < num1 rec 8 ∨
      ¬(num1 rec 6 ∈ [0, 3] ∧ num1 rec 7 = 0 ∨ num1 rec 6 ∈ [1, 2] ∧ num1 rec 7 ∈ [1, 2, 3]))) :
    readPatchRecord rec = none := by
  cases read : readPatchRecord rec with
  | none => rfl
  | some entry =>
    exfalso
    have sent := readPatchRecord_sent length read
    cases entry with
    | none =>
      have flag : num1 rec 0 = 0 := by
        have head := sent.1
        rw [head?_eq_byteAt (by omega), Option.some_inj] at head
        rw [num1, head]
        rfl
      omega
    | some p =>
      obtain ⟨valid, rfl⟩ := sent
      obtain ⟨flag, function, pair⟩ := p.encode_codes
      rcases unnamed with wrong | ⟨-, wrong | wrong⟩
      · omega
      · omega
      · exact wrong pair

/-- Settles O28: the single record by what it holds, the CLEAR, and both under an open pass. -/
theorem patchTableIsClearedOrRefused : Obligations.PatchTableIsClearedOrRefused := by
  refine ⟨fun s i record head closed => ⟨fun flag length => ?unused, fun p fits invalid bytes => ?value,
      fun whole unnamed => ?unnamed⟩, fun s start count records head closed => exec_patchClear head closed,
    fun s start count records opened within => ⟨fun head => exec_patchWrite_open head within opened,
      fun head => exec_patchClear_open head within opened⟩⟩
  all_goals
    have index := i.isLt
    rw [exec_patchWrite head (by omega) closed]
  case unused =>
    have sent : Patch.Sent record none := ⟨flag, length⟩
    have run : runRecords (patchStep i) 1 0 record s = (s.putPatch i none, none) := by
      rw [← List.append_nil record]
      exact runRecords_of_applied (patchStep_applied (by omega) sent)
    rw [State.loadRecords_answered _ (by omega) run head.2, State.putPatch, dif_pos index]
    rfl
  case value =>
    refine congrArg Host.Outcome.next (State.loadRecords_stopped _ (by omega) (by omega) head.2 ?_)
    have whole := p.codable_iff.mp fits
    have out : p.inRange = false := Bool.eq_false_iff.mpr fun range => by
      rw [p.valid_iff.mpr ⟨range, whole.2.2⟩] at invalid
      cases invalid
    have length := Patch.length_encode whole.2.2
    refine patchStep_value (by omega) (by rw [bytes]; omega) ?_
    rw [bytes, List.take_of_length_le (by omega), readPatchRecord_encode fits, out]
    rfl
  case unnamed =>
    refine congrArg Host.Outcome.next (State.loadRecords_stopped _ (by omega) (by omega) head.2 ?_)
    refine patchStep_value (by omega) whole (readPatchRecord_unnamed (by rw [List.length_take, Nat.min_eq_left whole]) ?_)
    rw [num1_take (by omega), num1_take (by omega), num1_take (by omega), num1_take (by omega)]
    exact unnamed

end Sys2Proof.Machine
end

section
/-!
The POOL, PRECOMP and CHANNEL loads.
-/

namespace Sys2Proof.Machine

/-! ### POOL records (R126 to R128, R155) -/

section
variable {j : Nat} {s : State} {len : Byte} {value : List Byte}

theorem poolStep_value (h : len = 0 ∨ 16 < len.toNat) : poolStep j (len :: value) s = .stop .value :=
  if_pos (h.imp_left fun zero => by rw [zero]; rfl)

theorem poolStep_truncated (least : 1 ≤ len.toNat) (most : len.toNat ≤ 16) (short : value.length < len.toNat) :
    poolStep j (len :: value) s = .stop .truncatedRecord := (if_neg (by omega)).trans (if_pos short)

variable {v : Serial} (size : 1 ≤ v.length ∧ v.length ≤ 16) (rest : List Byte)
include size

/-- A whole serial meets a full pool, or joins the tail. -/
theorem poolStep_serial : poolStep j (Serial.record v ++ rest) s =
    if 64 ≤ s.pool.length + s.boundCount then .stop .poolFull else .applied { s with pool := s.pool ++ [v] } rest := by
  have len_eq : (BitVec.ofNat 8 v.length).toNat = v.length := toNat_byte_of_le (by omega)
  change poolStep j (BitVec.ofNat 8 v.length :: (v ++ rest)) s = _
  rw [poolStep, len_eq, if_neg (by omega), if_neg (by rw [List.length_append]; omega), List.take_left, List.drop_left]

end

/-- Serials join the tail while queue and bound records hold fewer than 64 together. -/
theorem runRecords_serials (vs : List Serial) (sizes : ∀ v ∈ vs, 1 ≤ v.length ∧ v.length ≤ 16) (j room : Nat) (s : State)
    (space : room = 64 - (s.pool.length + s.boundCount)) :
    runRecords poolStep vs.length j (vs.flatMap Serial.record) s =
      ({ s with pool := s.pool ++ vs.take room }, if vs.length ≤ room then none else some (j + room, .poolFull)) := by
  induction vs generalizing j room s with
  | nil => simp [runRecords]
  | cons v vs ih =>
    have first := poolStep_serial (j := j) (s := s) (sizes v List.mem_cons_self) (vs.flatMap Serial.record)
    rw [List.flatMap_cons, List.length_cons]
    by_cases full : 64 ≤ s.pool.length + s.boundCount
    · have none_left : room = 0 := by omega
      rw [if_pos full] at first
      rw [runRecords_of_stop first, if_neg (by omega), none_left, List.take_zero, List.append_nil, Nat.add_zero]
    · obtain ⟨left, rfl⟩ : ∃ left, room = left + 1 := Nat.exists_eq_add_of_le' (by omega)
      have less : left = 64 - ((s.pool ++ [v]).length + ({ s with pool := s.pool ++ [v] } : State).boundCount) := by
        have bound : ({ s with pool := s.pool ++ [v] } : State).boundCount = s.boundCount := rfl
        rw [List.length_append, List.length_singleton, bound]
        omega
      rw [if_neg full] at first
      rw [runRecords_of_applied first, ih (fun w mem => sizes w (List.mem_cons_of_mem v mem)) (j + 1) left _ less,
        List.take_succ_cons, List.append_assoc, List.singleton_append]
      refine congrArg _ ?_
      by_cases fits : vs.length ≤ left
      · rw [if_pos fits, if_pos (by omega)]
      · rw [if_neg fits, if_neg (by omega), Nat.add_assoc, Nat.add_comm 1]

theorem exec_poolAppend {s : State} {start count : Nat} {records : List Byte}
    (head : s.headIs 0x20 (tableLoadBody 0x03 0x02 start count records) 1) :
    exec .poolAppend s = .next (s.loadRecords 0 poolStep (tableLoadBody 0x03 0x02 start count records)).dropHead :=
  congrArg Host.Outcome.next (State.takeFrame_load head loadIs_tableLoadBody _)

/-- Settles O29: the run of serials up to the room that is left. -/
theorem poolAppendJoinsTheTail : Obligations.PoolAppendJoinsTheTail := by
  intro s start vs head counted sizes _
  have run := runRecords_serials vs sizes 0 _ s rfl
  rw [exec_poolAppend head, State.loadRecords_answered 0 counted run head.2]
  by_cases fits : vs.length ≤ 64 - (s.pool.length + s.boundCount)
  · rw [if_pos fits, if_pos fits]
    rfl
  · rw [if_neg fits, if_neg fits, Nat.zero_add]
    simp only [Option.toList_some, List.map_cons, List.map_nil, Nat.zero_add]
    rfl

/-- Settles O30: the first record's refusals in R155's order, and the CLEAR. -/
theorem poolRecordIsRefusedAndPoolCleared : Obligations.PoolRecordIsRefusedAndPoolCleared := by
  refine ⟨fun s start count records head some_record counted => ?refused, fun s start count records head => ?cleared⟩
  case refused =>
    rw [exec_poolAppend head]
    refine ⟨fun empty => ?_, fun len value bytes => ⟨fun wrong => ?_, fun least most short => ?_⟩⟩
    all_goals refine congrArg Host.Outcome.next (State.loadRecords_stopped 0 some_record counted head.2 ?_)
    · rw [empty]; rfl
    · rw [bytes, poolStep_value wrong]
    · rw [bytes, poolStep_truncated least most short]
  case cleared =>
    refine congrArg Host.Outcome.next ((State.takeFrame_load head loadIs_tableLoadBody _).trans ?_)
    rw [State.dropHead_eq]
    rfl

/-! ### PRECOMP records (R156) -/

theorem Precomp.Sent.length {record : List Byte} {p : Precomp} (sent : Precomp.Sent record p) : record.length = 3 := by
  obtain ⟨-, -, -, rfl⟩ := sent
  rfl

theorem Precomp.Sent.read {record : List Byte} {p : Precomp} (sent : Precomp.Sent record p) :
    readPrecomp record = some p := by
  obtain ⟨boundary, outer, inner, rfl⟩ := sent
  rw [readPrecomp_encode boundary (by omega) (by omega), if_pos ⟨outer, inner⟩]

/-- The held values of a density: entry 0 is D's, and entry 1 H's. -/
def State.putPrecomp (s : State) (i : Nat) (p : Precomp) : State :=
  s.withTables (if i = 0 then { s.tables with precompD := p } else { s.tables with precompH := p })

section
variable {start j : Nat} {bs : List Byte} {s : State}

theorem precompStep_index (h : 2 ≤ start + j) : precompStep start j bs s = .stop .index := if_neg (by omega)

variable (h : start + j < 2)
include h

theorem precompStep_truncated (short : bs.length < 3) : precompStep start j bs s = .stop .truncatedRecord :=
  (if_pos h).trans (if_pos short)

theorem precompStep_value (whole : 3 ≤ bs.length) (unread : readPrecomp (bs.take 3) = none) :
    precompStep start j bs s = .stop .value := by
  refine (if_pos h).trans ((if_neg (by omega)).trans ?_)
  rw [unread]

theorem precompStep_applied {record rest : List Byte} {p : Precomp} (sent : Precomp.Sent record p) :
    precompStep start j (record ++ rest) s = .applied (s.putPrecomp (start + j) p) rest := by
  have length := sent.length
  refine (if_pos h).trans ((if_neg (by rw [List.length_append]; omega)).trans ?_)
  rw [← length, List.take_left, List.drop_left, sent.read, State.putPrecomp]

end

theorem precompStep_indexed (s : State) (start : Nat) :
    IndexedStep (precompStep start) Precomp.Sent (fun _ => 3) (fun j e s => s.putPrecomp (start + j) e)
      (fun t => t.reports = s.reports) (2 - start) .index := by
  refine ⟨fun j record rest e t lt kept sent => ⟨precompStep_applied (by omega) sent, kept⟩,
    fun j bs t lt kept short => precompStep_truncated (by omega) short,
    fun j bs t lt kept whole unsent => precompStep_value (by omega) whole ?_,
    fun bs t kept => precompStep_index (by omega)⟩
  cases read : readPrecomp (bs.take 3) with
  | none => rfl
  | some p => exact absurd (readPrecomp_sent (by rw [List.length_take, Nat.min_eq_left whole]) read) (unsent p)

theorem exec_precompWrite {s : State} {start count : Nat} {records : List Byte}
    (head : s.headIs 0x20 (tableLoadBody 0x04 0x01 start count records) 1) (within : start ≤ 255) :
    exec .precompWrite s =
      .next (s.loadRecords start (precompStep start) (tableLoadBody 0x04 0x01 start count records)).dropHead := by
  refine congrArg Host.Outcome.next ((State.takeFrame_load head loadIs_tableLoadBody _).trans ?_)
  rw [num1_start within]

/-- The held values after a run from an entry on. -/
theorem putRun_putPrecomp (start : Nat) (ps : List Precomp) (s : State) :
    putRun (fun j e s => s.putPrecomp (start + j) e) 0 (ps.take (2 - start)) s =
      s.withTables
        { s.tables with
          precompD := if start = 0 then ps[0]?.getD s.tables.precompD else s.tables.precompD
          precompH := if start ≤ 1 then ps[1 - start]?.getD s.tables.precompH else s.tables.precompH } := by
  match start, ps with
  | 0, [] => rfl
  | 0, [_] => rfl
  | 0, _ :: _ :: _ => rfl
  | 1, [] => rfl
  | 1, _ :: _ => rfl
  | n + 2, ps =>
    have none_left : 2 - (n + 2) = 0 := by omega
    rw [none_left, if_neg (by omega), if_neg (by omega)]
    rfl

/-- Settles O31: the run over the two entries, and the single record. -/
theorem precompRecordChangesHeldValues : Obligations.PrecompRecordChangesHeldValues := by
  refine ⟨fun s start ps fault load => ?run, fun s start p head boundary outer inner within => ?single⟩
  case run =>
    obtain ⟨count, records, head, within, loads⟩ := (precompStep_indexed s start).loads (stop := 2) rfl
      (fun t kept => by rw [State.freeEntries, kept]; rfl) load
    rw [exec_precompWrite head within, loads, putRun_putPrecomp]
    rfl
  case single =>
    have read := readPrecomp_encode boundary outer inner
    have stopped : ∀ {reason}, precompStep start 0 p.encode s = .stop reason →
        exec .precompWrite s = .next (s.answered [.tableError 0x04 start reason 0]) := fun stop => by
      rw [exec_precompWrite head within, State.loadRecords_stopped start (by omega) (by omega) head.2 stop]
    by_cases off : 2 ≤ start
    · rw [if_pos off, stopped (precompStep_index off)]
    by_cases wrong : 15 < p.outer ∨ 15 < p.inner
    · rw [if_neg (by omega)] at read
      rw [if_neg off, if_pos wrong, stopped (precompStep_value (by omega) (by exact Nat.le_refl 3) read)]
    · have sent : Precomp.Sent p.encode p := ⟨boundary, by omega, by omega, rfl⟩
      have run : runRecords (precompStep start) 1 0 p.encode s = (s.putPrecomp start p, none) := by
        rw [← List.append_nil p.encode]
        exact runRecords_of_applied (precompStep_applied (by omega) sent)
      rw [if_neg off, if_neg wrong, exec_precompWrite head within,
        State.loadRecords_answered start (by omega) run head.2, State.putPrecomp]
      split <;> rfl

end Sys2Proof.Machine
end

section
/-!
The CHANNEL loads.
-/

namespace Sys2Proof.Machine

/-- What a placed record does, by what the channel holds (R63, R86, R87). -/
theorem Channel.placeSettings_placed (c : Channel) (ch : ChannelNo) (r : Settings) (now : Nat) :
    c.placeSettings ch r now = c.placed r now := by
  rw [Channel.placeSettings, Channel.placed]
  by_cases copying : c.state.isCopy = true
  · rw [if_pos copying, if_pos copying]
  rw [if_neg copying, if_neg copying]
  cases was : c.active.enabled <;> cases will : r.enabled
  case false.false | true.true => simp
  case false.true =>
    by_cases offline : c.state = .offline
    · have off : c.state.motor = false := by rw [offline]; rfl
      dsimp only
      rw [if_neg nofun, if_pos rfl, if_pos ⟨rfl, rfl, offline⟩, Channel.actEnable, if_pos offline]
      exact Channel.enterEmptyOrSpinup_off { c with active := r, pendingRecord := none } ch now off
    · simp [Channel.actEnable, offline]
  case true.false =>
    by_cases leaves : c.state ∈ [.empty, .spinup, .ready, .stopped]
    · simp only [Bool.true_eq_false, Bool.false_eq_true, if_false, if_true, false_and, true_and, leaves]
      exact Channel.actDisable_leaves now leaves
    · simp only [Bool.true_eq_false, Bool.false_eq_true, if_false, false_and, true_and, leaves]
      exact Channel.actDisable_stays now leaves

/-! ### CHANNEL records (R157, R158) -/

theorem Settings.Sent.length {record : List Byte} {r : Settings} (sent : Settings.Sent record r) : record.length = 22 := by
  obtain ⟨r, -, -, rfl, -⟩ := sent
  exact r.length_encode

theorem Settings.Sent.read {record : List Byte} {placed : Settings} (sent : Settings.Sent record placed) :
    readSettings record = some placed := by
  obtain ⟨r, fits, valid, rfl, rfl⟩ := sent
  rw [readSettings_encode fits, if_pos valid]
  rfl

/-- A channel takes a record, if there is one of that number. -/
def State.putSettings (s : State) (i : Nat) (r : Settings) : State :=
  { s with channels := if h : i < 8 then s.channels.set i (s.channels[i].placed r s.now) else s.channels }

theorem putRun_putSettings (start j : Nat) (es : List Settings) (s : State) :
    putRun (fun j e s => s.putSettings (start + j) e) j es s =
      { s with channels := fillRun (fun r c => c.placed r s.now) s.channels (start + j) es } := by
  induction es generalizing j s with
  | nil => rfl
  | cons e es ih => rw [putRun, ih]; rfl

section
variable {start j : Nat} {bs : List Byte} {s : State}

theorem channelStep_index (h : 8 ≤ start + j) : channelStep start j bs s = .stop .index := dif_neg (by omega)

variable (h : start + j < 8)
include h

theorem channelStep_truncated (short : bs.length < 22) : channelStep start j bs s = .stop .truncatedRecord :=
  (dif_pos h).trans (if_pos short)

theorem channelStep_value (whole : 22 ≤ bs.length) (unread : readSettings (bs.take 22) = none) :
    channelStep start j bs s = .stop .value := by
  refine (dif_pos h).trans ((if_neg (by omega)).trans ?_)
  rw [unread]

theorem channelStep_applied {record rest : List Byte} {r : Settings} (sent : Settings.Sent record r) :
    channelStep start j (record ++ rest) s = .applied (s.putSettings (start + j) r) rest := by
  have length := sent.length
  refine (dif_pos h).trans ((if_neg (by rw [List.length_append]; omega)).trans ?_)
  rw [← length, List.take_left, List.drop_left, sent.read, State.putSettings, dif_pos h]
  simp only [Channel.placeSettings_placed, State.modChan_eq]
  rfl

end

theorem channelStep_indexed (s : State) (start : Nat) :
    IndexedStep (channelStep start) Settings.Sent (fun _ => 22) (fun j e s => s.putSettings (start + j) e)
      (fun t => t.reports = s.reports) (8 - start) .index := by
  refine ⟨fun j record rest e t lt kept sent => ⟨channelStep_applied (by omega) sent, kept⟩,
    fun j bs t lt kept short => channelStep_truncated (by omega) short,
    fun j bs t lt kept whole unsent => channelStep_value (by omega) whole ?_,
    fun bs t kept => channelStep_index (by omega)⟩
  cases read : readSettings (bs.take 22) with
  | none => rfl
  | some r => exact absurd (readSettings_sent (by rw [List.length_take, Nat.min_eq_left whole]) read) (unsent r)

theorem exec_channelWrite {s : State} {start count : Nat} {records : List Byte}
    (head : s.headIs 0x20 (tableLoadBody 0x05 0x01 start count records) 1) (within : start ≤ 255) :
    exec .channelWrite s =
      .next (s.loadRecords start (channelStep start) (tableLoadBody 0x05 0x01 start count records)).dropHead := by
  refine congrArg Host.Outcome.next ((State.takeFrame_load head loadIs_tableLoadBody _).trans ?_)
  rw [num1_start within]

/-! ### Records that R157 does not allow -/

theorem num2_take {bs : List Byte} {i k : Nat} (h : i + 1 < k) : num2 (bs.take k) i = num2 bs i := by
  rw [num2, num1_take (by omega), num1_take h, num2]

theorem num3_take {bs : List Byte} {i k : Nat} (h : i + 2 < k) : num3 (bs.take k) i = num3 bs i := by
  rw [num3, num1_take (by omega), num2_take (by omega), num3]

theorem num1_le_of_readYesNo {bs : List Byte} {i : Nat} {yes : Bool} (read : readYesNo (byteAt bs i) = some yes) :
    num1 bs i ≤ 1 := by
  have byte := readYesNo_iff.mp read
  rw [num1]
  generalize byteAt bs i = b at byte
  cases yes <;> (cases byte; decide)

theorem num1_le_of_readDriveType {bs : List Byte} {i : Nat} {drive : DriveType}
    (read : readDriveType (byteAt bs i) = some drive) : num1 bs i ≤ 1 := by
  rw [num1, readDriveType_iff.mp read]
  cases drive <;> decide

/-- A record with a code that names no value, or with a value or a limit that is not allowed, is no settings record. -/
theorem readSettings_refused {rec : List Byte}
    (wrong : 1 < num1 rec 0 ∨ 1 < num1 rec 1 ∨ 1 < num1 rec 4 ∨ 1 < num1 rec 10 ∨ 15 < num1 rec 11 ∨ 1048575 < num3 rec 12 ∨
      1048575 < num3 rec 15 ∨ num3 rec 15 ≤ num3 rec 12 ∨ num2 rec 20 ≤ num2 rec 18) : readSettings rec = none := by
  unfold readSettings
  split
  case h_2 => rfl
  case h_1 enabled drive rearm auto read_enabled read_drive read_rearm read_auto =>
    refine if_neg fun valid => ?_
    obtain ⟨manual, periodMin, periodMax, period, pulse⟩ := (Settings.valid_iff _).mp valid
    have enabled_le := num1_le_of_readYesNo read_enabled
    have drive_le := num1_le_of_readDriveType read_drive
    have rearm_le := num1_le_of_readYesNo read_rearm
    have auto_le := num1_le_of_readYesNo read_auto
    dsimp only at manual periodMin periodMax period pulse
    omega

/-- Settles O32: the run of CHANNEL records to channel 7, and the record that is not allowed. -/
theorem channelRecordIsPlaced : Obligations.ChannelRecordIsPlaced := by
  refine ⟨fun s start es fault load => ?run, fun s ch count r head some_record counted whole wrong => ?refused⟩
  case run =>
    obtain ⟨count, records, head, within, loads⟩ := (channelStep_indexed s start).loads (stop := 8) rfl
      (fun t kept => by rw [State.freeEntries, kept]; rfl) load
    refine ⟨fillRun (fun r c => c.placed r s.now) s.channels start (es.take (8 - start)), ?_, fun k => ?_⟩
    · rw [exec_channelWrite head within, loads, putRun_putSettings]
      rfl
    · refine (getElem_fillRun_take (fun (r : Settings) c => c.placed r s.now) s.channels start 8 es k k.isLt).trans ?_
      simp only [k.isLt, and_true]
      rfl
  case refused =>
    have index := ch.isLt
    rw [exec_channelWrite head (by omega)]
    refine congrArg Host.Outcome.next (State.loadRecords_stopped _ some_record counted head.2 ?_)
    refine channelStep_value (by omega) whole (readSettings_refused ?_)
    rw [num1_take (by omega), num1_take (by omega), num1_take (by omega), num1_take (by omega), num1_take (by omega),
      num2_take (by omega), num2_take (by omega), num3_take (by omega), num3_take (by omega)]
    exact wrong

end Sys2Proof.Machine
end

section
/-!
The PASS-BEGIN that passes every check (R47 to R49): whom it enrolls, and what has become of the channels below a number
once they have been dealt with.
-/

namespace Sys2Proof.Machine

/-! ### The front of an ascending list -/

section
variable {l before after : List ChannelNo} {x : ChannelNo}

/-- What is below an entry stands before it, and what is below the next number ends with it. -/
theorem filter_lt_of_sorted (sorted : (before ++ x :: after).Pairwise (· < ·)) :
    (before ++ x :: after).filter (·.val < x.val) = before ∧
      (before ++ x :: after).filter (·.val < x.val + 1) = before ++ [x] := by
  obtain ⟨-, rest, ascends⟩ := List.pairwise_append.mp sorted
  have later := (List.pairwise_cons.mp rest).1
  have kept (n : Nat) (le : x.val ≤ n) : before.filter (·.val < n) = before := List.filter_eq_self.mpr fun y entry => by
    have lt : y.val < x.val := ascends y entry x List.mem_cons_self
    exact decide_eq_true (by omega)
  have dropped (n : Nat) (le : n ≤ x.val + 1) : after.filter (·.val < n) = [] := List.filter_eq_nil_iff.mpr fun y entry => by
    have lt : x.val < y.val := later y entry
    rw [decide_eq_true_eq]
    omega
  constructor
  · rw [List.filter_append, kept _ (Nat.le_refl _), List.filter_cons_of_neg (by simp), dropped _ (Nat.le_succ _),
      List.append_nil]
  · rw [List.filter_append, kept _ (Nat.le_succ _), List.filter_cons_of_pos (by simp), dropped _ (Nat.le_refl _)]

/-- As many entries are below an entry as stand before it. -/
theorem length_filter_lt_of_getElem? (sorted : l.Pairwise (· < ·)) {k : Nat} (entry : l[k]? = some x) :
    (l.filter (·.val < x.val)).length = k := by
  obtain ⟨lt, there⟩ := List.getElem?_eq_some_iff.mp entry
  have split : l = l.take k ++ x :: l.drop (k + 1) := by rw [← there, List.getElem_cons_drop, List.take_append_drop]
  have below : l.filter (·.val < x.val) = l.take k := by
    conv => lhs; rw [split]
    exact (filter_lt_of_sorted (split ▸ sorted)).1
  rw [below, List.length_take, Nat.min_eq_left (Nat.le_of_lt lt)]

/-- The entries below the next number. -/
theorem filter_lt_succ_of_sorted (sorted : l.Pairwise (· < ·)) (x : ChannelNo) :
    l.filter (·.val < x.val + 1) = l.filter (·.val < x.val) ++ if x ∈ l then [x] else [] := by
  by_cases mem : x ∈ l
  · obtain ⟨before, after, rfl⟩ := List.append_of_mem mem
    obtain ⟨below, next⟩ := filter_lt_of_sorted sorted
    rw [if_pos mem, below, next]
  · rw [if_neg mem, List.append_nil]
    refine List.filter_congr fun y entry => ?_
    have apart : y.val ≠ x.val := fun same => mem (Fin.ext same ▸ entry)
    exact decide_eq_decide.mpr (by omega)

/-- An entry is among the first `c` exactly when fewer than `c` of these are below it. -/
theorem mem_take_iff_of_sorted (sorted : l.Pairwise (· < ·)) (mem : x ∈ l) (c : Nat) :
    x ∈ l.take c ↔ ((l.take c).filter (·.val < x.val)).length < c := by
  obtain ⟨before, after, rfl⟩ := List.append_of_mem mem
  obtain ⟨-, -, ascends⟩ := List.pairwise_append.mp sorted
  have lt (y : ChannelNo) (entry : y ∈ before) : y.val < x.val := ascends y entry x List.mem_cons_self
  by_cases cut : c ≤ before.length
  · have kept : (before.take c).filter (·.val < x.val) = before.take c :=
      List.filter_eq_self.mpr fun y entry => decide_eq_true (lt y (List.mem_of_mem_take entry))
    rw [List.take_append_of_le_length cut, kept, List.length_take, Nat.min_eq_left cut]
    exact iff_of_false (fun entry => Nat.lt_irrefl _ (lt x (List.mem_of_mem_take entry))) (Nat.lt_irrefl c)
  · obtain ⟨more, rfl⟩ : ∃ more, c = before.length + (more + 1) := ⟨c - before.length - 1, by omega⟩
    have front : (before ++ x :: after).take (before.length + (more + 1)) = before ++ x :: after.take more := by
      rw [List.take_length_add_append, List.take_succ_cons]
    rw [front, (filter_lt_of_sorted (front ▸ sorted.sublist (List.take_sublist _ _))).1]
    exact iff_of_true (List.mem_append_right before List.mem_cons_self) (by omega)

end

/-! ### Whom a PASS-BEGIN enrolls (R47, R48) -/

/-- The READY channels whose drives reach the layout. -/
def State.fitting (s : State) : List ChannelNo :=
  channelsUp.filter fun ch => (s.chan ch).state == .ready &&
    decide ((s.layout.cylinders - 1) * s.job.stepFactor ≤ (s.chan ch).active.driveType.reach)

/-- How many copies the quota and the pool leave room for. -/
def State.roomForCopies (s : State) : Nat :=
  min (if s.job.quota = 0 then 8 else s.job.quota - s.control.jobPassed) (if s.tables.needSerials then s.pool.length else 8)

/-- The channels that are enrolled. -/
def State.chosen (s : State) : List ChannelNo := s.fitting.take s.roomForCopies

/-- The enrolled channels below a number. -/
def State.chosenBelow (s : State) (n : Nat) : List ChannelNo := s.chosen.filter (·.val < n)

/-- The copy number of the enrollment `k`. -/
def State.numberAt (s : State) (k : Nat) : Nat := (s.control.copyNumber - 1 + k) % 65535 + 1

/-- The serial record of the enrollment `k`. -/
def State.serialAt (s : State) (k : Nat) : Option Serial := if s.tables.needSerials then s.pool[k]? else none

/-- Why a READY channel is left out. -/
def State.leftOutFor (s : State) (ch : ChannelNo) : NotEnrolledReason :=
  if s.job.quota ≠ 0 ∧ s.job.quota ≤ s.control.jobPassed + (s.chosenBelow ch).length then .quota
  else if ch ∉ s.fitting then .driveType else .poolEmpty

/-- The entry of a channel that is left out. -/
def State.leftOut (s : State) (ch : ChannelNo) : Option NotEnrolledEntry :=
  if (s.chan ch).state = .stopped then some ⟨ch, .motorStopped⟩
  else if (s.chan ch).state = .ready ∧ ch ∉ s.chosen then some ⟨ch, s.leftOutFor ch⟩
  else none

/-- A channel as the opening of a pass shows it. -/
def State.shownZero (s : State) (trackZero : ChannelSet) (ch : ChannelNo) : Channel :=
  (s.chan ch).modLines fun l => { l with trackZero := setHas trackZero ch }

/-- What becomes of a channel. -/
def State.dealtChan (s : State) (tag : Byte) (trackZero : ChannelSet) (ch : ChannelNo) : Channel :=
  if ch ∈ s.chosen then
    (s.shownZero trackZero ch).enroll
      (.enrolled tag (s.numberAt (s.chosenBelow ch).length) (s.serialAt (s.chosenBelow ch).length)) s.layout.density
      (s.layout.headOf 0) s.now
  else if (s.chan ch).state = .stopped then (s.shownZero trackZero ch).enterSpinup ch s.now
  else s.shownZero trackZero ch

/-- The POOL-LOW formed by `n` enrollments (R134). -/
def State.lowAfter (s : State) (n : Nat) : Option Nat :=
  if s.tables.needSerials = true ∧ s.job.poolLowMark < s.pool.length ∧ s.pool.length - n ≤ s.job.poolLowMark then
    some s.job.poolLowMark
  else none

section
variable (s : State)

theorem State.sorted_fitting : s.fitting.Pairwise (· < ·) :=
  List.Pairwise.filter _ (by decide : channelsUp.Pairwise (· < ·))

theorem State.sorted_chosen : s.chosen.Pairwise (· < ·) := s.sorted_fitting.sublist (List.take_sublist _ _)

theorem State.chosenBelow_succ (ch : ChannelNo) :
    s.chosenBelow (ch.val + 1) = s.chosenBelow ch ++ if ch ∈ s.chosen then [ch] else [] :=
  filter_lt_succ_of_sorted s.sorted_chosen ch

theorem State.length_chosenBelow (ch : ChannelNo) : (s.chosenBelow ch).length < 8 := by
  have fewer : (channelsUp.filter (·.val < ch.val)).length = ch.val := by revert ch; decide
  have sub : (s.chosenBelow ch).Sublist (channelsUp.filter (·.val < ch.val)) :=
    ((List.take_sublist _ _).trans List.filter_sublist).filter _
  have le := sub.length_le
  omega

variable {s} {ch : ChannelNo}

theorem State.mem_fitting : ch ∈ s.fitting ↔ (s.chan ch).state = .ready ∧
    (s.layout.cylinders - 1) * s.job.stepFactor ≤ (s.chan ch).active.driveType.reach := by
  rw [State.fitting, List.mem_filter, Bool.and_eq_true, beq_iff_eq, decide_eq_true_eq, and_iff_right (mem_channelsUp ch)]

theorem State.mem_chosenBelow {n : Nat} : ch ∈ s.chosenBelow n ↔ ch ∈ s.chosen ∧ ch.val < n := by
  rw [State.chosenBelow, List.mem_filter, decide_eq_true_eq]

/-- A channel that fits is enrolled while the quota and the pool have room behind those below it. -/
theorem State.mem_chosen : ch ∈ s.chosen ↔ ch ∈ s.fitting ∧
    ¬(s.job.quota ≠ 0 ∧ s.job.quota ≤ s.control.jobPassed + (s.chosenBelow ch).length) ∧
      (s.tables.needSerials = true → (s.chosenBelow ch).length < s.pool.length) := by
  by_cases fits : ch ∈ s.fitting
  · have few := s.length_chosenBelow ch
    rw [and_iff_right fits]
    refine (mem_take_iff_of_sorted s.sorted_fitting fits s.roomForCopies).trans ?_
    change (s.chosenBelow ch).length < s.roomForCopies ↔ _
    rw [State.roomForCopies, Nat.lt_min]
    refine and_congr ?quota ?pool
    case quota => split <;> omega
    case pool =>
      split
      case isTrue needed => exact ⟨fun stocked _ => stocked, fun stocked => stocked needed⟩
      case isFalse unneeded => exact iff_of_true few fun needed => absurd needed unneeded
  · exact iff_of_false (fun chosen => fits (List.mem_of_mem_take chosen)) fun h => fits h.1

end

end Sys2Proof.Machine
end

section
/-!
The PASS-BEGIN deals with the channels in ascending order (R47 to R49, R70, R134).
-/

namespace Sys2Proof.Machine

/-! ### One channel -/

section
variable {d : Dealing} {ch : ChannelNo}

theorem dealWith_stopped (st : (d.state.chan ch).state = .stopped) :
    dealWith d ch =
      { d with
        state := d.state.setChan ch ((d.state.chan ch).enterSpinup ch d.state.now)
        notEnrolled := d.notEnrolled ++ [⟨ch, .motorStopped⟩] } := by
  rw [dealWith, st]
  rfl

theorem dealWith_leftOut {r : NotEnrolledReason} (st : (d.state.chan ch).state = .ready)
    (reason : d.state.notEnrolled (d.state.chan ch) = some r) :
    dealWith d ch = { d with notEnrolled := d.notEnrolled ++ [⟨ch, r⟩] } := by
  rw [dealWith, st, reason]

theorem dealWith_enrolled (st : (d.state.chan ch).state = .ready)
    (free : d.state.notEnrolled (d.state.chan ch) = none) :
    dealWith d ch =
      { d with
        state := d.state.enroll ch
        enrolled := d.enrolled ++ [⟨ch, d.state.control.copyNumber, d.state.serialTaken⟩]
        low := d.low <|> d.state.lowCrossing } := by
  rw [dealWith, st, free]

theorem dealWith_other (stopped : (d.state.chan ch).state ≠ .stopped) (ready : (d.state.chan ch).state ≠ .ready) :
    dealWith d ch = d := by
  rw [dealWith]
  split
  case h_1 st => exact absurd st stopped
  case h_2 st => exact absurd st ready
  all_goals rfl

end

/-! ### The channels below a number -/

/-- The channels below `n` have been dealt with. -/
structure DealtBelow (s : State) (tag : Byte) (trackZero : ChannelSet) (n : Nat) (d : Dealing) : Prop where
  fields      : DealingFields (s.openPass tag trackZero) d.state
  control     : d.state.control =
    { s.control with
      copyNumber := s.numberAt (s.chosenBelow n).length
      pass :=
        { state := .opened, tag := tag, live := d.state.control.pass.live, enrolled := d.state.control.pass.enrolled
          passed := 0, failed := 0, closeReason := none, closure := none } }
  live        : ∀ ch : ChannelNo, setHas d.state.control.pass.live ch = decide (ch ∈ s.chosenBelow n) ∧
    setHas d.state.control.pass.enrolled ch = decide (ch ∈ s.chosenBelow n)
  flight      : d.state.inFlight = (s.chosenBelow n).length
  pool        : d.state.pool = if s.tables.needSerials then s.pool.drop (s.chosenBelow n).length else s.pool
  enrolled    : d.enrolled = (s.chosenBelow n).mapIdx fun k ch => ⟨ch, s.numberAt k, s.serialAt k⟩
  notEnrolled : d.notEnrolled = (channelsUp.take n).filterMap s.leftOut
  low         : d.low = s.lowAfter (s.chosenBelow n).length
  channels    : ∀ ch : ChannelNo,
    d.state.chan ch = if ch.val < n then s.dealtChan tag trackZero ch else s.shownZero trackZero ch

section
variable {s : State} {tag : Byte} {trackZero : ChannelSet} {d : Dealing} {ch : ChannelNo}

theorem State.chan_openPass (ch : ChannelNo) : (s.openPass tag trackZero).chan ch = s.shownZero trackZero ch := by
  have same : (s.openPass tag trackZero).channels =
      (s.mapChans fun ch c => c.modLines fun l => { l with trackZero := setHas trackZero ch }).channels := rfl
  rw [State.chan_congr same, State.chan_mapChans, State.shownZero]

theorem DealtBelow.zero (least : 1 ≤ s.control.copyNumber) (most : s.control.copyNumber ≤ 65535) :
    DealtBelow s tag trackZero 0 ⟨s.openPass tag trackZero, [], [], none⟩ := by
  have nobody : s.chosenBelow 0 = [] := List.filter_eq_nil_iff.mpr fun _ _ => by simp
  have number : s.numberAt 0 = s.control.copyNumber := by rw [State.numberAt]; omega
  have low : s.lowAfter 0 = none := if_neg (by omega)
  refine ⟨⟨rfl, rfl, rfl, rfl, rfl, rfl, rfl⟩, ?control, fun ch => ?live, ?flight, ?pool, ?enrolled, rfl, ?low,
    fun ch => ?chan⟩
  case chan => rw [if_neg (Nat.not_lt_zero _), State.chan_openPass]
  all_goals rw [nobody]
  case control =>
    rw [List.length_nil, number]
    rfl
  case live => exact ⟨setHas_empty ch, setHas_empty ch⟩
  case flight => exact setCard_zero
  case pool => split <;> rfl
  case enrolled => rfl
  case low => exact low.symm

/-- The conditions of R47, for a READY channel that has its turn. -/
theorem DealtBelow.notEnrolled_chan (h : DealtBelow s tag trackZero ch d) (st : (s.chan ch).state = .ready) :
    d.state.notEnrolled (d.state.chan ch) = if ch ∈ s.chosen then none else some (s.leftOutFor ch) := by
  have job : d.state.job = s.job := State.job_congr h.fields.job
  have layout : d.state.layout = s.layout := by rw [State.layout, h.fields.tables, h.fields.job]; rfl
  have tables : d.state.tables = s.tables := h.fields.tables
  have passed : d.state.control.jobPassed = s.control.jobPassed := by rw [h.control]
  have drive : (d.state.chan ch).active = (s.chan ch).active := by
    rw [h.channels, if_neg (Nat.lt_irrefl _)]
    rfl
  have stocked : s.tables.needSerials = true ∧ d.state.pool = [] ↔
      ¬(s.tables.needSerials = true → (s.chosenBelow ch).length < s.pool.length) := by
    rw [h.pool, Classical.not_imp, Nat.not_lt]
    refine and_congr_right fun needed => ?_
    rw [if_pos needed, List.drop_eq_nil_iff]
  have reaches : (d.state.chan ch).active.driveType.reach < (s.layout.cylinders - 1) * s.job.stepFactor ↔
      ch ∉ s.fitting := by
    rw [drive, State.mem_fitting, and_iff_right st, Nat.not_le]
  rw [State.notEnrolled, job, passed, h.flight, layout, tables, State.leftOutFor]
  simp only [reaches, stocked, State.mem_chosen]
  by_cases full : s.job.quota ≠ 0 ∧ s.job.quota ≤ s.control.jobPassed + (s.chosenBelow ch).length
  · rw [if_pos full, if_neg fun chosen => chosen.2.1 full, if_pos full]
  · rw [if_neg full, if_neg full]
    by_cases fits : ch ∈ s.fitting
    · simp only [fits, full, not_true_eq_false, not_false_eq_true, if_false, true_and]
      split <;> simp_all
    · rw [if_pos fits, if_neg fun chosen => fits chosen.1, if_pos fits]

/-- A channel that is not enrolled spins up or stays, and is listed if it is READY or STOPPED. -/
theorem DealtBelow.dealWith_passedOver (h : DealtBelow s tag trackZero ch d) (out : ch ∉ s.chosen) :
    dealWith d ch =
      { d with
        state := d.state.setChan ch (s.dealtChan tag trackZero ch)
        notEnrolled := d.notEnrolled ++ (s.leftOut ch).toList } := by
  have turn : d.state.chan ch = s.shownZero trackZero ch := by rw [h.channels, if_neg (Nat.lt_irrefl _)]
  have state : (d.state.chan ch).state = (s.chan ch).state := by rw [turn]; rfl
  have now : d.state.now = s.now := h.fields.now
  by_cases stopped : (s.chan ch).state = .stopped
  · rw [dealWith_stopped (state.trans stopped), State.dealtChan, if_neg out, if_pos stopped, State.leftOut, if_pos stopped,
      turn, now]
    rfl
  have stays : d.state.setChan ch (s.dealtChan tag trackZero ch) = d.state := by
    rw [State.dealtChan, if_neg out, if_neg stopped, ← turn]
    exact State.setChan_chan d.state ch
  rw [stays]
  by_cases ready : (s.chan ch).state = .ready
  · have reason := h.notEnrolled_chan ready
    rw [if_neg out] at reason
    rw [dealWith_leftOut (state.trans ready) reason, State.leftOut, if_neg stopped, if_pos ⟨ready, out⟩]
    rfl
  · rw [dealWith_other (by rw [state]; exact stopped) (by rw [state]; exact ready), State.leftOut, if_neg stopped,
      if_neg fun listed => ready listed.1, Option.toList_none, List.append_nil]

/-- The pool has a record for a channel that is enrolled. -/
theorem State.stocked_of_chosen (chosen : ch ∈ s.chosen) (needed : s.tables.needSerials = true) :
    (s.chosenBelow ch).length < s.pool.length := (State.mem_chosen.mp chosen).2.2 needed

theorem DealtBelow.serialTaken (h : DealtBelow s tag trackZero ch d) :
    d.state.serialTaken = s.serialAt (s.chosenBelow ch).length := by
  have tables : d.state.tables = s.tables := h.fields.tables
  rw [State.serialTaken, State.serialAt, tables, h.pool]
  split
  · exact List.head?_drop
  · rfl

/-- A POOL-LOW is formed by the enrollment that takes the pool to the mark, and by no later one (R134). -/
theorem DealtBelow.low_next (h : DealtBelow s tag trackZero ch d) (chosen : ch ∈ s.chosen) :
    (d.low <|> d.state.lowCrossing) = s.lowAfter ((s.chosenBelow ch).length + 1) := by
  have tables : d.state.tables = s.tables := h.fields.tables
  have job : d.state.job = s.job := State.job_congr h.fields.job
  rw [h.low, State.lowCrossing, State.lowAfter, State.lowAfter, tables, job, h.pool]
  by_cases needed : s.tables.needSerials = true
  · have stocked := State.stocked_of_chosen chosen needed
    simp only [needed, if_true, true_and, List.length_drop]
    by_cases crossed : s.job.poolLowMark < s.pool.length ∧ s.pool.length - (s.chosenBelow ch).length ≤ s.job.poolLowMark
    · have stays : s.job.poolLowMark < s.pool.length ∧
          s.pool.length - ((s.chosenBelow ch).length + 1) ≤ s.job.poolLowMark := by omega
      rw [if_pos crossed, if_pos stays]
      rfl
    · rw [if_neg crossed]
      by_cases crosses : s.job.poolLowMark < s.pool.length ∧
          s.pool.length - ((s.chosenBelow ch).length + 1) ≤ s.job.poolLowMark
      · have mark : s.pool.length - (s.chosenBelow ch).length - 1 = s.job.poolLowMark := by omega
        rw [if_pos crosses, if_pos (by omega), mark]
        rfl
      · rw [if_neg crosses, if_neg (by omega)]
        rfl
  · simp [needed]

/-- A channel that is enrolled takes the next copy number and the next serial record. -/
theorem DealtBelow.dealWith_chosen (h : DealtBelow s tag trackZero ch d) (chosen : ch ∈ s.chosen) :
    dealWith d ch =
      { d with
        state := d.state.enroll ch
        enrolled := d.enrolled ++ [⟨ch, s.numberAt (s.chosenBelow ch).length, s.serialAt (s.chosenBelow ch).length⟩]
        low := s.lowAfter ((s.chosenBelow ch).length + 1) } := by
  have ready := (State.mem_fitting.mp (State.mem_chosen.mp chosen).1).1
  have turn : d.state.chan ch = s.shownZero trackZero ch := by rw [h.channels, if_neg (Nat.lt_irrefl _)]
  have state : (d.state.chan ch).state = .ready := by rw [turn]; exact ready
  have reason := h.notEnrolled_chan ready
  have number : d.state.control.copyNumber = s.numberAt (s.chosenBelow ch).length := by rw [h.control]
  rw [if_pos chosen] at reason
  rw [dealWith_enrolled state reason, h.serialTaken, h.low_next chosen, number]

theorem nextCopyNumber_numberAt (k : Nat) : nextCopyNumber (s.numberAt k) = s.numberAt (k + 1) := by
  have most : Config.counterMax = 65535 := rfl
  rw [nextCopyNumber, State.numberAt, State.numberAt, most]
  split <;> omega

theorem State.enroll_control (u : State) (ch : ChannelNo) :
    (u.enroll ch).control =
      { u.control with
        copyNumber := nextCopyNumber u.control.copyNumber
        pass :=
          { u.control.pass with
            live := setAdd u.control.pass.live ch, enrolled := setAdd u.control.pass.enrolled ch } } := rfl

/-- The channels in ascending order. -/
theorem take_channelsUp_succ (ch : ChannelNo) : channelsUp.take (ch.val + 1) = channelsUp.take ch.val ++ [ch] := by
  revert ch
  decide

/-- What the other channels show while one is dealt with. -/
theorem DealtBelow.channels_next (h : DealtBelow s tag trackZero ch d) {t : State}
    (channels : t.channels = (d.state.setChan ch (s.dealtChan tag trackZero ch)).channels) (e : ChannelNo) :
    t.chan e = if e.val < ch.val + 1 then s.dealtChan tag trackZero e else s.shownZero trackZero e := by
  rw [State.chan_congr channels]
  by_cases same : e = ch
  · rw [same, State.chan_setChan_self, if_pos (Nat.lt_succ_self _)]
  · have apart : e.val ≠ ch.val := fun eq => same (Fin.ext eq)
    rw [State.chan_setChan_ne _ _ same, h.channels]
    by_cases below : e.val < ch.val
    · rw [if_pos below, if_pos (by omega)]
    · rw [if_neg below, if_neg (by omega)]

theorem DealtBelow.passedOver (h : DealtBelow s tag trackZero ch d) (out : ch ∉ s.chosen) :
    DealtBelow s tag trackZero (ch.val + 1) (dealWith d ch) := by
  have same : s.chosenBelow (ch.val + 1) = s.chosenBelow ch := by
    rw [State.chosenBelow_succ, if_neg out, List.append_nil]
  obtain ⟨pending, now, tables, store, link, reports, job⟩ := h.fields
  rw [h.dealWith_passedOver out]
  refine ⟨⟨pending, now, tables, store, link, reports, job⟩, ?_, ?_, ?_, ?_, ?_, ?_, ?_, h.channels_next rfl⟩
  case refine_6 =>
    rw [take_channelsUp_succ, List.filterMap_append, ← h.notEnrolled, List.filterMap_cons, List.filterMap_nil]
    cases s.leftOut ch <;> rfl
  all_goals rw [same]
  · exact h.control
  · exact h.live
  · exact h.flight
  · exact h.pool
  · exact h.enrolled
  · exact h.low

theorem DealtBelow.chosen (h : DealtBelow s tag trackZero ch d) (chosen : ch ∈ s.chosen) :
    DealtBelow s tag trackZero (ch.val + 1) (dealWith d ch) := by
  have next : s.chosenBelow (ch.val + 1) = s.chosenBelow ch ++ [ch] := by rw [State.chosenBelow_succ, if_pos chosen]
  have length : (s.chosenBelow (ch.val + 1)).length = (s.chosenBelow ch).length + 1 := by
    rw [next, List.length_append, List.length_singleton]
  have tables : d.state.tables = s.tables := h.fields.tables
  have layout : d.state.layout = s.layout := by rw [State.layout, tables, h.fields.job]; rfl
  have now : d.state.now = s.now := h.fields.now
  have turn : d.state.chan ch = s.shownZero trackZero ch := by rw [h.channels, if_neg (Nat.lt_irrefl _)]
  have number : d.state.control.copyNumber = s.numberAt (s.chosenBelow ch).length := by rw [h.control]
  have tag_eq : d.state.control.pass.tag = tag := by rw [h.control]
  have ready := (State.mem_fitting.mp (State.mem_chosen.mp chosen).1).1
  have absent : setHas d.state.control.pass.live ch = false := by
    rw [(h.live ch).1, decide_eq_false_iff_not, State.mem_chosenBelow]
    exact fun below => Nat.lt_irrefl _ below.2
  have joins (x : ChannelSet) (has : ∀ e : ChannelNo, setHas x e = decide (e ∈ s.chosenBelow ch)) (e : ChannelNo) :
      setHas (setAdd x ch) e = decide (e ∈ s.chosenBelow (ch.val + 1)) := by
    rw [setHas_setAdd, has, next, decide_eq_true e.isLt, Bool.true_and, ← Bool.decide_or]
    refine decide_eq_decide.mpr ?_
    rw [List.mem_append, List.mem_singleton, Fin.ext_iff, eq_comm]
  obtain ⟨pending, now', tables', store, link, reports, job⟩ := h.fields
  rw [h.dealWith_chosen chosen]
  refine ⟨⟨pending, now', tables', store, link, reports, job⟩, ?control, fun e => ?live, ?flight, ?pool, ?enrolled,
    ?notEnrolled, ?low, h.channels_next ?channels⟩
  case control =>
    dsimp only
    rw [length, State.enroll_control, h.control, nextCopyNumber_numberAt]
  case live => exact ⟨joins _ (fun e => (h.live e).1) e, joins _ (fun e => (h.live e).2) e⟩
  case flight => rw [length, ← h.flight]; exact setCard_setAdd ch.isLt absent
  case pool =>
    have taken : (d.state.enroll ch).pool = if d.state.tables.needSerials then d.state.pool.tail else d.state.pool := rfl
    rw [length, taken, tables, h.pool]
    split
    · exact List.tail_drop
    · rfl
  case enrolled => rw [next, List.mapIdx_append, ← h.enrolled, List.mapIdx_cons, Nat.zero_add]; rfl
  case notEnrolled =>
    have listed : s.leftOut ch = none := by
      rw [State.leftOut, if_neg (by rw [ready]; nofun), if_neg fun listed => listed.2 chosen]
    rw [take_channelsUp_succ, List.filterMap_append, ← h.notEnrolled, List.filterMap_cons, listed, List.filterMap_nil,
      List.append_nil]
  case low => rw [length]
  case channels =>
    refine congrArg (d.state.channels.set ch) ?_
    rw [State.dealtChan, if_pos chosen, h.serialTaken, number, tag_eq, layout, now, turn]

theorem DealtBelow.next (h : DealtBelow s tag trackZero ch d) :
    DealtBelow s tag trackZero (ch.val + 1) (dealWith d ch) := by
  by_cases chosen : ch ∈ s.chosen
  · exact h.chosen chosen
  · exact h.passedOver chosen

/-- All channels have been dealt with. -/
theorem State.dealt_below (least : 1 ≤ s.control.copyNumber) (most : s.control.copyNumber ≤ 65535) :
    DealtBelow s tag trackZero 8 (s.dealt tag trackZero) := by
  have up_to (n : Nat) (le : n ≤ 8) :
      DealtBelow s tag trackZero n ((channelsUp.take n).foldl dealWith ⟨s.openPass tag trackZero, [], [], none⟩) := by
    induction n with
    | zero => exact DealtBelow.zero least most
    | succ n ih =>
      have take := take_channelsUp_succ ⟨n, le⟩
      dsimp only at take
      rw [take, List.foldl_append]
      exact DealtBelow.next (ch := ⟨n, le⟩) (ih (Nat.le_of_succ_le le))
  exact up_to 8 (Nat.le_refl 8)

theorem State.chosenBelow_all : s.chosenBelow 8 = s.chosen :=
  List.filter_eq_self.mpr fun ch _ => decide_eq_true ch.isLt

end

/-! ### The channel that is enrolled (R48, R70) -/

theorem Channel.enroll_ready (c : Channel) (copy : CopyRecord) (density : Density) (head now : Nat) (ready : c.state = .ready) :
    c.enroll copy density head now =
      { c with
        copy := some copy
        cursor := some 0
        attempts := 0
        idleTimer := none
        state := if c.lines.trackZero then .seeking else .recalibrating
        cylinder := if c.lines.trackZero then some 0 else none
        recalSteps := if c.lines.trackZero then 0 else 1
        stepTimer := if c.lines.trackZero then none else some (now + c.active.stepRate * 1000000)
        settleTimer := if c.lines.trackZero then some (now + c.active.settle * 1000000) else c.settleTimer
        lines :=
          { c.lines with
            density := density
            direction := .outward
            steps := c.lines.steps + if c.lines.trackZero then 0 else 1
            headSelect := if c.lines.trackZero then head else c.lines.headSelect } } := by
  have on : c.state.motor = true := by rw [ready]; rfl
  have entered := Channel.enter_of_motor { c with copy := some copy, cursor := some 0, attempts := 0 } .recalibrating now on
  rw [Channel.enroll, Channel.enterRecalibrating, entered]
  cases zero : c.lines.trackZero with
  | false => simp [Channel.pulse]
  | true =>
    rw [if_pos rfl, Channel.enterSeeking_begun _ 0 head now rfl]
    simp [Channel.seekBegun, Channel.stepped]

/-! ### The pass that has begun -/

theorem Tables.needSerials_eq (t : Tables) :
    t.needSerials = t.patches.toList.any (fun e => e.any fun p => p.source == .serial) := by
  refine congrArg t.patches.toList.any (funext fun e => ?_)
  cases e <;> rfl

/-- With no patch entry off the layout, nothing refuses the pass (R46). -/
theorem PassMayBegin.unrefused {s : State} {tag : Byte} {j : Job} {l : Layout} (h : PassMayBegin s tag j l) :
    s.passBeginRefusal tag = none := by
  have idle := State.passBusy_eq_false_iff.mpr h.idle
  have fits : s.layoutFits j = true := (State.layoutFits_used h.layout.1).trans (decide_eq_true h.layout.2)
  have unmet : ¬(j.quota ≠ 0 ∧ s.control.jobPassed = j.quota) := fun met => h.quota.elim met.1 fun ne => ne met.2
  have inside : s.tables.outside l = none := List.findIdx?_eq_none_iff.mpr fun e entry => by
    obtain ⟨i, lt, rfl⟩ := List.mem_iff_getElem.mp entry
    rw [Vector.getElem_toList]
    have index : i < 32 := by simpa using lt
    cases used : s.tables.patches[i] with
    | none => rfl
    | some p => simp [Patch.fits_iff.mpr (h.patches ⟨i, index⟩ p used)]
  rw [State.passBeginRefusal_job h.tag idle h.job, fits, if_neg nofun, if_neg unmet,
    State.layout_eq h.job h.layout.1, inside]
  rfl

theorem State.closeIfEmpty_eq (s : State) : s.closeIfEmpty =
    s.modPass fun p => { p with state := if s.control.pass.live = 0 then .idle else p.state } := by
  rw [State.closeIfEmpty]
  split <;> rfl

/-- PASS-OPENED and the POOL-LOW that an entry is free for (R49, R134). -/
theorem State.told_eq {s : State} (free : 0 < s.freeEntries) (opened : Report) (low : Option Nat) :
    low.elim (s.place opened) (fun n => (s.place opened).place (.poolLow n)) =
      { s with reports := s.reports ++ [opened] ++
          if s.reports.length + 2 ≤ 32 then (low.map Report.poolLow).toList else [] } := by
  rw [State.place_eq free]
  cases low with
  | none => simp
  | some n =>
    rw [Option.elim_some, State.place_eq_ite]
    by_cases room : s.reports.length + 2 ≤ 32
    · rw [if_pos room, if_pos (by rw [List.length_append, List.length_singleton]; omega)]
      rfl
    · rw [if_neg room, if_neg (by rw [List.length_append, List.length_singleton]; omega), List.append_nil]

/-- The state behind a PASS-BEGIN that passes every check. -/
theorem exec_passBegin_begun {s : State} {tag : Byte} {trackZero : ChannelSet} {j : Job} {l : Layout} {d : Dealing}
    (head : s.headIs 0x30 [tag] 1) (may : PassMayBegin s tag j l) (dealt : s.dealt tag trackZero = d) :
    exec (.passBegin trackZero) s = .next
      { d.state with
        reports := s.reports ++ [.passOpened tag d.enrolled d.notEnrolled] ++
          if s.reports.length + 2 ≤ 32 then (d.low.map Report.poolLow).toList else []
        link := (s.answered []).link
        control := { d.state.control with
          pass := { d.state.control.pass with
            state := if d.state.control.pass.live = 0 then .idle else d.state.control.pass.state } } } := by
  have tag_field : byteAt [tag] 0 = tag := rfl
  have fields : DealingFields (s.openPass tag trackZero) d.state := dealt ▸ s.dealt_fields tag trackZero
  have reports : d.state.reports = s.reports := fields.reports
  have link : d.state.link = s.link := fields.link
  have free : 0 < d.state.freeEntries := by rw [State.freeEntries, reports]; exact head.2
  rw [exec_passBegin trackZero head, State.passBegin, tag_field, may.unrefused]
  dsimp only
  rw [State.beginPass_eq, dealt, State.told_eq free, State.closeIfEmpty_eq, State.dropHead_eq, reports]
  simp only [State.answered, State.modPass, State.modControl, List.append_nil, link]

/-- Settles O36: what the dealing with the eight channels comes to. -/
theorem passBeginEnrollsInOrder : Obligations.PassBeginEnrollsInOrder := by
  intro s tag trackZero j l serials fits chosen number serial head may least most serials_eq fits_eq chosen_eq number_eq
    serial_eq
  have job : s.job = j := by rw [State.job, may.job]; rfl
  have layout := State.layout_eq may.job may.layout.1
  rw [← Tables.needSerials_eq] at serials_eq
  obtain rfl : fits = s.fitting := by
    rw [fits_eq, State.fitting, job, layout]
    refine List.filter_congr fun ch _ => ?_
    cases (s.chan ch).active.driveType <;> rfl
  obtain rfl : number = s.numberAt := funext number_eq
  subst serials_eq
  obtain rfl : serial = s.serialAt := funext serial_eq
  obtain rfl : chosen = s.chosen := by rw [chosen_eq, State.chosen, State.roomForCopies, job]
  generalize dealt : s.dealt tag trackZero = d
  have all : DealtBelow s tag trackZero 8 d := dealt ▸ State.dealt_below least most
  have nobody : d.state.control.pass.live = 0 ↔ s.chosen = [] := by
    rw [set_eq_zero_iff, List.eq_nil_iff_forall_not_mem]
    refine ⟨fun none ch chosen => ?_, fun none ch lt => ?_⟩
    · have has := (all.live ch).1
      rw [none ch ch.isLt, State.chosenBelow_all, decide_eq_true chosen] at has
      cases has
    · exact (all.live ⟨ch, lt⟩).1.trans (decide_eq_false (by rw [State.chosenBelow_all]; exact none ⟨ch, lt⟩))
  have control := all.control
  have pool := all.pool
  have enrolled := all.enrolled
  have low := all.low
  have live := all.live
  rw [State.chosenBelow_all] at control pool enrolled low
  simp only [State.chosenBelow_all] at live
  refine ⟨_, exec_passBegin_begun head may dealt, live, ?control, pool, ?reports, fun k ch entry => ?chosen,
    fun ch out => ?others, all.fields.store, all.fields.tables, rfl, all.fields.now, all.fields.pending⟩
  case control =>
    dsimp only
    rw [control]
    simp only [nobody]
  case reports =>
    have listed : d.notEnrolled = channelsUp.filterMap s.leftOut := all.notEnrolled
    have lows : (if s.reports.length + 2 ≤ 32 then (d.low.map Report.poolLow).toList else []) =
        if s.tables.needSerials = true ∧ s.job.poolLowMark < s.pool.length ∧
            s.pool.length - s.chosen.length ≤ s.job.poolLowMark ∧ s.reports.length + 2 ≤ 32 then
          [.poolLow s.job.poolLowMark] else [] := by
      rw [low, State.lowAfter]
      by_cases room : s.reports.length + 2 ≤ 32
      · simp only [room, if_true, and_true]
        split <;> rfl
      · simp only [room, if_false, and_false]
    rw [enrolled, listed, lows, ← job]
    rfl
  case chosen =>
    have number := length_filter_lt_of_getElem? s.sorted_chosen entry
    have mem := List.mem_of_getElem? entry
    have ready := (State.mem_fitting.mp (State.mem_chosen.mp mem).1).1
    refine (all.channels ch).trans ?_
    rw [if_pos ch.isLt, State.dealtChan, if_pos mem, Channel.enroll_ready (s.shownZero trackZero ch) _ _ _ _ ready,
      State.chosenBelow, number, layout, Layout.headOf, Nat.zero_mod]
    rfl
  case others =>
    refine (all.channels ch).trans ?_
    rw [if_pos ch.isLt, State.dealtChan, if_neg out]
    by_cases stopped : (s.chan ch).state = .stopped
    · have off : (s.chan ch).state.motor = false := by rw [stopped]; rfl
      rw [if_pos stopped, if_pos stopped, Channel.enterSpinup_off (s.shownZero trackZero ch) ch s.now off]
      rfl
    · rw [if_neg stopped, if_neg stopped]
      rfl

end Sys2Proof.Machine
end
